-- ==== Sys2Proof/Word.lean ====
section
/-! DEFINITION. The word types of SWPC and the two levels of its pin. -/

namespace Sys2Proof

/-- A byte: a command code (R71) or a byte of the frame buffer (R24). -/
abbrev Byte := BitVec 8

/-- A response word `rsp_data[31:0]` (R73). -/
abbrev Word := BitVec 32

/-- A level of the pin (R11): `LOW` is 0, `HIGH` is 1. -/
inductive Level
  | low
  | high
  deriving DecidableEq, Repr, Inhabited

end Sys2Proof
end

