-- ==== Sys2Proof/Config.lean ====
section
/-! DEFINITION. The construction parameters of SWPC (R6, R8) and the free values the model draws
where the spec leaves a value to an outside party. -/

namespace Sys2Proof

/-- The construction parameter `VARIANT` (R6): 0 is A, 1 is B, 2 is C. The value 3 has no variant. -/
inductive Variant
  | A
  | B
  | C
  deriving DecidableEq, Repr, Inhabited

/-- The parameters of R8, each with the default of its table. `VARIANT` has no default. -/
structure Config where
  /-- `VARIANT`: the decoding rule. -/
  variant : Variant
  /-- `T_REQ_MS`: request hold, milliseconds. -/
  tReqMs : Nat := 18
  /-- `T_HS1`: handshake step 1 timeout, µs. -/
  tHs1 : Nat := 40
  /-- `T_HS2`: handshake step 2 timeout, µs. -/
  tHs2 : Nat := 80
  /-- `T_HS3`: handshake step 3 timeout, µs. -/
  tHs3 : Nat := 80
  /-- `T_BLO`: bit start marker timeout, µs. -/
  tBlo : Nat := 50
  /-- `T_BHI`: bit high-pulse timeout, µs. -/
  tBhi : Nat := 100
  /-- `T_BIT1`: a longer high pulse is a 1. -/
  tBit1 : Nat := 45
  /-- `TW`: width in bits of the time counter and of every duration. -/
  tw : Nat := 32
  deriving DecidableEq, Repr

/-- `N_BYTES` (R8), fixed. -/
def Config.nBytes : Nat := 5

/-- `N_BITS` (R8), fixed. -/
def Config.nBits : Nat := 40

/-- FREE VALUE: the variant the machine of `State.reset` was built with. R6 and R8 give `VARIANT` no
default (it "must be given"), so nothing can be proved of this one. DESIGN CHOICE, log entry 7. -/
opaque Config.builtVariant : Variant

/-- The defaults of R8, with the free variant. -/
def Config.default : Config := { variant := Config.builtVariant }

/-- FREE VALUE: the wire oracle (R239) at the `n`-th clock for which no input is listed.
DESIGN CHOICE, log entry 4. -/
opaque Config.freePin : Nat → Level

/-- FREE VALUE: by how much the true count of the time source (R236) has grown at the `n`-th clock
for which no input is listed. DESIGN CHOICE, log entry 4. -/
opaque Config.freeElapsed : Nat → Nat

/-- FREE VALUE: the sleep driver's answer (R237) at the `n`-th clock for which no input is listed.
DESIGN CHOICE, log entry 4. -/
opaque Config.freeSlpDone : Nat → Bool

end Sys2Proof
end

