-- ==== Sys2Proof/Syntax.lean ====
section
/-! DEFINITION. The host commands (one constructor per row of the opcode table, R72) and the lines of
a host script (R84). -/

namespace Sys2Proof

/-- The seven host commands of R72. No command has an operand (R71). -/
inductive Instr
  /-- `INIT`, code 0x01 (R191). -/
  | init
  /-- `READ`, code 0x02 (R130). -/
  | read
  /-- `GET_STATUS`, code 0x10 (R192). -/
  | getStatus
  /-- `GET_HUM`, code 0x11 (R193). -/
  | getHum
  /-- `GET_TEMPC`, code 0x12 (R194). -/
  | getTempc
  /-- `GET_TEMPF`, code 0x13 (R195). -/
  | getTempf
  /-- `GET_TEMPK`, code 0x14 (R196). -/
  | getTempk
  deriving DecidableEq, Repr

/-- One line of a host script (R84). -/
inductive ScriptLine
  /-- A mnemonic of R72. -/
  | command (i : Instr)
  /-- The pseudo-command `WAITDONE`. -/
  | waitDone
  /-- The directive `.byte 0xNN`: a raw code, reserved or not. -/
  | rawByte (code : Byte)
  deriving DecidableEq, Repr

end Sys2Proof
end

