-- ==== Sys2Proof/WellFormed.lean ====
section
/-! DEFINITION. Well-formedness: of a command (no command has a field that could be wrong, R71, R83)
and of the construction parameters (the widths of R31 and R100). -/

namespace Sys2Proof

/-- Every command is well formed: it has no operand, register or immediate field (R71). -/
def Instr.wf : Instr → Bool
  | .init => true
  | .read => true
  | .getStatus => true
  | .getHum => true
  | .getTempc => true
  | .getTempf => true
  | .getTempk => true

/-- A duration is a `TW`-bit unsigned value (R100). -/
def Config.fitsTime (c : Config) (t : Nat) : Bool := decide (t < 2 ^ c.tw)

/-- The five timeouts of R139 are `TW`-bit values (R100). -/
def Config.timeoutsFit (c : Config) : Bool :=
  c.fitsTime c.tHs1 && c.fitsTime c.tHs2 && c.fitsTime c.tHs3 && c.fitsTime c.tBlo && c.fitsTime c.tBhi

/-- The classifier's threshold is compared with a `TW`-bit duration (R108). -/
def Config.thresholdFits (c : Config) : Bool := c.fitsTime c.tBit1

/-- `T_REQ_MS` is written to `SLP_MS[15:0]` (R31, R131). -/
def Config.holdFits (c : Config) : Bool := decide (c.tReqMs < 2 ^ 16)

/-- The parameters fit the registers and durations they are used for. -/
def Config.wf (c : Config) : Bool := c.timeoutsFit && c.thresholdFits && c.holdFits

end Sys2Proof
end

