-- ==== Sys2Proof/Decode.lean ====
section
/-! DEFINITION. The decoder, the encoder, and the assembly of host scripts (R71 to R74, R83, R84). -/

namespace Sys2Proof

/-- One row of the opcode table (R72): a code matches when its bits under `mask` are `pattern`. -/
structure OpcodeRow where
  pattern : Byte
  mask : Byte
  instr : Instr
  deriving DecidableEq, Repr

/-- Why a code is no command. -/
inductive DecodeError
  /-- The code is one of the 249 reserved codes (R74). -/
  | reserved (code : Byte)
  deriving DecidableEq, Repr

/-- The assigned codes: "Every row matches all 8 bits (mask 0xFF)" (R72). -/
def opcodeTable : List OpcodeRow :=
  [ ⟨0x01#8, 0xFF#8, .init⟩,
    ⟨0x02#8, 0xFF#8, .read⟩,
    ⟨0x10#8, 0xFF#8, .getStatus⟩,
    ⟨0x11#8, 0xFF#8, .getHum⟩,
    ⟨0x12#8, 0xFF#8, .getTempc⟩,
    ⟨0x13#8, 0xFF#8, .getTempf⟩,
    ⟨0x14#8, 0xFF#8, .getTempk⟩ ]

/-- The row's mask and pattern accept the code. -/
def OpcodeRow.accepts (row : OpcodeRow) (code : Byte) : Bool := (code &&& row.mask) == row.pattern

/-- The decoder: total on every code, rejecting the reserved ones by name (R72, R74). -/
def decode (code : Byte) : Except DecodeError Instr :=
  match opcodeTable.find? (·.accepts code) with
  | some row => .ok row.instr
  | none => .error (.reserved code)

/-- The field `GRP` of a command (R71, R72): 0x0 lifecycle and control, 0x1 accessor. -/
def Instr.group : Instr → BitVec 4
  | .init => 0x0#4
  | .read => 0x0#4
  | .getStatus => 0x1#4
  | .getHum => 0x1#4
  | .getTempc => 0x1#4
  | .getTempf => 0x1#4
  | .getTempk => 0x1#4

/-- The field `OP` of a command (R71, R72). -/
def Instr.operation : Instr → BitVec 4
  | .init => 0x1#4
  | .read => 0x2#4
  | .getStatus => 0x0#4
  | .getHum => 0x1#4
  | .getTempc => 0x2#4
  | .getTempf => 0x3#4
  | .getTempk => 0x4#4

/-- The encoder: `GRP` in bits 7 to 4, `OP` in bits 3 to 0 (R71). -/
def encode (i : Instr) : Byte := i.group ++ i.operation

/-- The decoder on a row of the opcode table: every command is exactly one 8-bit code (R83). -/
def decodeTableWord (nbits w : Nat) : Option Instr :=
  if nbits = 8 ∧ w < 256 then
    match decode (BitVec.ofNat 8 w) with
    | .ok i => some i
    | .error _ => none
  else none

/-- The code byte a script line assembles to (R84). -/
def ScriptLine.code : ScriptLine → Byte
  | .command i => encode i
  | .waitDone => 0x10#8
  | .rawByte b => b

/-- Why a script's text is not accepted. -/
inductive ScriptError
  /-- The text of a line is none of the forms of R84. -/
  | badLine (text : List Char)
  deriving DecidableEq, Repr

/-- A command's mnemonic (R72). -/
def Instr.mnemonic : Instr → List Char
  | .init => ['I', 'N', 'I', 'T']
  | .read => ['R', 'E', 'A', 'D']
  | .getStatus => ['G', 'E', 'T', '_', 'S', 'T', 'A', 'T', 'U', 'S']
  | .getHum => ['G', 'E', 'T', '_', 'H', 'U', 'M']
  | .getTempc => ['G', 'E', 'T', '_', 'T', 'E', 'M', 'P', 'C']
  | .getTempf => ['G', 'E', 'T', '_', 'T', 'E', 'M', 'P', 'F']
  | .getTempk => ['G', 'E', 'T', '_', 'T', 'E', 'M', 'P', 'K']

/-- The pseudo-command's name (R84). -/
def waitDoneName : List Char := ['W', 'A', 'I', 'T', 'D', 'O', 'N', 'E']

/-- The sixteen hexadecimal digits, each at the place of its value. -/
def hexUpper : List Char := "0123456789ABCDEF".toList

/-- The same with the letters in lower case (DESIGN CHOICE, log entry 14). -/
def hexLower : List Char := "0123456789abcdef".toList

/-- One hexadecimal digit of a `.byte` directive (R84), in either case (DESIGN CHOICE, log entry 14). -/
def hexDigit (c : Char) : Option Nat := (hexUpper.idxOf? c).or (hexLower.idxOf? c)

/-- A blank of a script line (DESIGN CHOICE, log entry 14). -/
def isBlank (c : Char) : Bool := c == ' ' || c == '\t' || c == '\r'

/-- A line without its comment and the blanks around what is left (R84). -/
def lineText (line : List Char) : List Char :=
  (((line.takeWhile (· != ';')).dropWhile isBlank).reverse.dropWhile isBlank).reverse

/-- `.byte 0xNN`, two hex digits (R84). -/
def rawByteOf : List Char → Option Byte
  | ['0', 'x', hi, lo] =>
    match hexDigit hi, hexDigit lo with
    | some h, some l => some (BitVec.ofNat 8 (16 * h + l))
    | _, _ => none
  | _ => none

/-- The operand text of a `.byte` directive, when the line is one. -/
def byteOperand : List Char → Option (List Char)
  | '.' :: 'b' :: 'y' :: 't' :: 'e' :: c :: rest =>
    if isBlank c then some (rest.dropWhile isBlank) else none
  | _ => none

/-- The commands of R72, in the table's order. -/
def allInstrs : List Instr := opcodeTable.map (·.instr)

/-- One line of text: nothing, a mnemonic, `WAITDONE` or `.byte 0xNN` (R84). -/
def parseLine (line : List Char) : Except ScriptError (List ScriptLine) :=
  let text := lineText line
  if text.isEmpty then .ok []
  else if text = waitDoneName then .ok [.waitDone]
  else match allInstrs.find? (fun i => decide (i.mnemonic = text)) with
    | some i => .ok [.command i]
    | none =>
      match (byteOperand text).bind rawByteOf with
      | some b => .ok [.rawByte b]
      | none => .error (.badLine text)

/-- The lines of a text. -/
def splitLines : List Char → List (List Char)
  | [] => [[]]
  | c :: rest =>
    if c = '\n' then [] :: splitLines rest
    else match splitLines rest with
      | [] => [[c]]
      | l :: ls => (c :: l) :: ls

/-- The lines of a script, each parsed, in order; the first bad one is named. -/
def parseLines : List (List Char) → Except ScriptError (List ScriptLine)
  | [] => .ok []
  | l :: ls =>
    match parseLine l, parseLines ls with
    | .ok a, .ok b => .ok (a ++ b)
    | .error e, _ => .error e
    | .ok _, .error e => .error e

/-- A host script from its text, one command per line (R84). -/
def parseScript (text : List Char) : Except ScriptError (List ScriptLine) :=
  parseLines (splitLines text)

end Sys2Proof
end

