-- ==== Sys2Proof/Machine/State.lean ====
section
/-! DEFINITION. The state of the machine: SWPC's own registers and outputs (R20), the construction
parameters (R6, R8), the response of the current clock (R73), and the outside parties' data (the
host's script, the inputs to come, the time source's count). -/

namespace Sys2Proof.Machine

open Sys2Proof

/-- The five measuring phases (R100). -/
inductive Meas
  /-- `HS1`: the sensor's turnaround (R133). -/
  | hs1
  /-- `HS2`: the low hold (R134). -/
  | hs2
  /-- `HS3`: the presence acknowledgment (R135). -/
  | hs3
  /-- `BLO`: the start-of-bit marker (R136). -/
  | blo
  /-- `BHI`: the bit's high pulse (R137). -/
  | bhi
  deriving DecidableEq, Repr

/-- `PHASE` (R21): nine values, of which five measure (log entry 16). -/
inductive Phase
  /-- `IDLE`: no read in flight, the controller takes no step. -/
  | idle
  /-- `REQ` (R131). -/
  | req
  /-- `REQ_WAIT` (R132). -/
  | reqWait
  /-- `HS1`, `HS2`, `HS3`, `BLO` or `BHI`. -/
  | measure (m : Meas)
  /-- `CHK` (R160). -/
  | chk
  deriving DecidableEq, Repr

/-- `STATUS.CODE` and `DONE_CODE` (R25, R220). -/
inductive StatusCode
  /-- Ok: frame valid and decoded. -/
  | ok
  /-- ChecksumMismatch: full frame received but corrupted. -/
  | checksumMismatch
  /-- Timeout: the handshake succeeded but bit reception stalled. -/
  | timeout
  /-- NoReply: the sensor did not acknowledge the request. -/
  | noReply
  deriving DecidableEq, Repr

/-- The `STATUS` register's three fields (R25). -/
structure Status where
  /-- `CODE`: the outcome of the most recent completed read. -/
  code : StatusCode
  /-- `BUSY`: a read is in flight. -/
  busy : Bool
  /-- `DONE`: a read has completed since reset. -/
  done : Bool
  deriving DecidableEq, Repr

/-- `PIN_DIR` (R11, R30): 0 releases the pin to its pull-up, 1 drives it. -/
inductive PinDir
  /-- `IN_PU`, value 0. -/
  | inPu
  /-- `OUT`, value 1. -/
  | out
  deriving DecidableEq, Repr

/-- `FRAME[0..4]` (R24): "exactly 5 bytes". -/
structure Frame where
  b0 : Byte
  b1 : Byte
  b2 : Byte
  b3 : Byte
  b4 : Byte
  deriving DecidableEq, Repr

/-- The response of a host step (R73): `rsp_err` and `rsp_data[31:0]`. -/
structure Response where
  err : Bool
  data : Word
  deriving DecidableEq, Repr

/-- What the host does in a clock (R70, R84). -/
inductive HostTurn
  /-- `cmd_valid = 0`. -/
  | quiet
  /-- `cmd_valid = 1` with this `cmd_code`. -/
  | give (code : Byte)
  /-- The host gives its script's next line, if one is left. -/
  | nextLine
  deriving DecidableEq, Repr

/-- The inputs of one clock (R33) and which agents move in it (R57; log entry 1). -/
structure Clock where
  /-- `rst` (R250). -/
  rst : Bool
  /-- `cmd_valid` and `cmd_code` (R70). -/
  host : HostTurn
  /-- The controller takes its step in this clock, if it is enabled. -/
  ctl : Bool
  /-- `pin_in`: the wire oracle's answer (R239). -/
  pinIn : Level
  /-- How many microseconds the time source has counted since the clock before (R236). -/
  elapsed : Nat
  /-- `slp_done`: the sleep driver's answer (R237). -/
  slpDone : Bool
  deriving DecidableEq, Repr

/-- Everything the machine holds. -/
structure State where
  /-- The construction parameters (R6, R8): no step writes them. -/
  cfg : Config
  /-- `PHASE` (R21). -/
  phase : Phase
  /-- `PT_RUN` (R22). -/
  ptRun : Bool
  /-- `PT_T0` (R22), below `2 ^ TW` (log entry 8). -/
  ptT0 : Nat
  /-- `BITIDX[5:0]` (R23). -/
  bitIdx : BitVec 6
  /-- `FRAME[0..4]` (R24). -/
  frame : Frame
  /-- `STATUS` (R25). -/
  status : Status
  /-- `HUM[15:0]` (R26). -/
  hum : BitVec 16
  /-- `TEMPC[15:0]` (R27). -/
  tempc : BitVec 16
  /-- `TEMPF[31:0]` (R28). -/
  tempf : BitVec 32
  /-- `TEMPK[31:0]` (R29). -/
  tempk : BitVec 32
  /-- `PIN_DIR` (R30). -/
  pinDir : PinDir
  /-- `PIN_OUT` (R30). -/
  pinOut : Level
  /-- `SLP_REQ` (R31). -/
  slpReq : Bool
  /-- `SLP_MS[15:0]` (R31). -/
  slpMs : BitVec 16
  /-- `DONE_STB` (R32). -/
  doneStb : Bool
  /-- `DONE_CODE[1:0]` (R32). -/
  doneCode : StatusCode
  /-- `rsp_err` and `rsp_data` of the current clock (R73); log entry 10. -/
  rsp : Option Response
  /-- What is left of the host's script (R84); log entry 13. -/
  script : List ScriptLine
  /-- The inputs still to come, one record per clock; log entry 4. -/
  clocks : List Clock
  /-- The time source's true count (R236); log entry 5. -/
  usCount : Nat
  /-- How many clocks drew free oracle values; log entry 4. -/
  drawn : Nat
  deriving DecidableEq, Repr

/-- Why a step stops. -/
inductive Fault
  /-- `FRAME[index]` was written with an index above 4, which the spec says does not exist and is never
  produced (R50). Raised by `memWrite` only, in states with `BITIDX ≥ 40` in phase `BHI`, which no run
  from reset reaches. SAFE: the machine stops rather than invent a sixth byte (log entry 11). -/
  | noFrameByte (index : Nat)
  deriving DecidableEq, Repr

/-- Why an instruction has no meaning. -/
inductive Refusal
  /-- The instruction has no meaning in this model yet; raised by `exec`'s refused arms only (there is
  none). SAFE. -/
  | notModelled (mnemonic : String)
  deriving DecidableEq, Repr

/-- The machine built with parameters `c`, right after reset: every register at its value in R20 and
R250, no response, nothing listed of what the outside will do, the time source at 0. -/
def State.resetWith (c : Config) : State where
  cfg := c
  phase := .idle
  ptRun := false
  ptT0 := 0
  bitIdx := 0#6
  frame := ⟨0x00#8, 0x00#8, 0x00#8, 0x00#8, 0x00#8⟩
  status := ⟨.noReply, false, false⟩
  hum := 0#16
  tempc := 0#16
  tempf := 0#32
  tempk := 0#32
  pinDir := .inPu
  pinOut := .low
  slpReq := false
  slpMs := 0#16
  doneStb := false
  doneCode := .ok
  rsp := none
  script := []
  clocks := []
  usCount := 0
  drawn := 0

/-- The machine right after reset, with the default parameters of R8 and a free `VARIANT`. -/
def State.reset : State := State.resetWith Config.default

end Sys2Proof.Machine
end

