-- ==== Sys2Proof/Machine/Ops.lean ====
section
/-! DEFINITION. The primitives of R10 as operations on State: frame bytes, the response, the pin
outputs, the completion event, the phase, and failure entry (R224), the one shared operation by which
a read takes an exception. There is no return from a failure (R226). -/

namespace Sys2Proof.Machine

open Sys2Proof

/-- What a step or a part of one answers. -/
abbrev Result := Host.Outcome State Fault Refusal

/-- First `o`, then `k` on the state it leaves; a stop stays a stop. -/
def andThen (o : Result) (k : State → Result) : Result :=
  match o with
  | .next s => k s
  | .fault f => .fault f
  | .refused r => .refused r

/-- `FRAME[i]` (R24), `i` from 0 to 4. No rule reads another index. -/
def Frame.get (f : Frame) (i : Nat) : Byte :=
  match i with
  | 0 => f.b0
  | 1 => f.b1
  | 2 => f.b2
  | 3 => f.b3
  | 4 => f.b4
  | _ => 0x00#8

/-- The frame with byte `i` replaced, `i` from 0 to 4. -/
def Frame.set (f : Frame) (i : Nat) (v : Byte) : Frame :=
  match i with
  | 0 => { f with b0 := v }
  | 1 => { f with b1 := v }
  | 2 => { f with b2 := v }
  | 3 => { f with b3 := v }
  | 4 => { f with b4 := v }
  | _ => f

/-- The frame with all five bytes zero (R130, R250). -/
def Frame.zero : Frame := ⟨0x00#8, 0x00#8, 0x00#8, 0x00#8, 0x00#8⟩

/-- `MemRead(i, n)` (R10, R52): bytes `i` to `i + n - 1` as one number, byte `i` most significant. -/
def memRead (f : Frame) (i : Nat) : Nat → Nat
  | 0 => 0
  | n + 1 => memRead f i n * 2 ^ 8 + (f.get (i + n)).toNat

/-- `FRAME[i] <- v`, on a frame index that exists. -/
def storeByte (i : Nat) (v : Byte) (s : State) : State := { s with frame := s.frame.set i v }

/-- `MemWrite(i, 1, v)` (R10): `FRAME[i] <- v[7:0]`. The frame has five bytes (R50): a larger index
does not exist (DEDUCED, log entry 11). -/
def memWrite (i v : Nat) (s : State) : Result :=
  if i < Config.nBytes then .next (storeByte i (BitVec.ofNat 8 v) s) else .fault (.noFrameByte i)

/-- `respond(err, data)` (R73). -/
def respond (err : Bool) (data : Word) (s : State) : State := { s with rsp := some ⟨err, data⟩ }

/-- `Drive(dir, lvl)` (R10, R30): both outputs in one step. -/
def drive (dir : PinDir) (lvl : Level) (s : State) : State := { s with pinDir := dir, pinOut := lvl }

/-- The outputs to the sleep driver (R31): `SLP_REQ` and `SLP_MS`. -/
def askSleep (ms : BitVec 16) (s : State) : State := { s with slpReq := true, slpMs := ms }

/-- `SLP_REQ <- 0` (R132). -/
def endSleep (s : State) : State := { s with slpReq := false }

/-- `PT_RUN <- 0`. -/
def stopTimer (s : State) : State := { s with ptRun := false }

/-- `PT_T0 <- t; PT_RUN <- 1` (R101). -/
def startTimer (t : Nat) (s : State) : State := { s with ptT0 := t, ptRun := true }

/-- `phase <- P` (R10, R21). -/
def goto (p : Phase) (s : State) : State := { s with phase := p }

/-- `STATUS` written whole (R25). -/
def setStatus (st : Status) (s : State) : State := { s with status := st }

/-- `Emit(code)` (R227). -/
def emit (code : StatusCode) (s : State) : State := { s with doneStb := true, doneCode := code }

/-- `raise Fail(code)`, failure entry (R224): the status recorded, the read no longer in flight, the
timer stopped, the completion event, control to `IDLE`. Nothing else is written. -/
def raiseFail (code : StatusCode) (s : State) : State :=
  goto .idle (emit code (stopTimer (setStatus ⟨code, false, true⟩ s)))

end Sys2Proof.Machine
end

