-- ==== Sys2Proof/Machine/Operands.lean ====
section
/-! DEFINITION. Operands: the inputs of a clock (R33), the operands of a measurement (R100, R139), the
fields of a frame (R81, R82) and the widening of registers to response words (R9, R77). -/

namespace Sys2Proof.Machine

open Sys2Proof

/-- The inputs of a clock for which none is listed: no reset, the host gives its script's next line,
the controller steps, and the oracles answer free values. DESIGN CHOICE, log entry 4. -/
def freeClock (n : Nat) : Clock where
  rst := false
  host := .nextLine
  ctl := true
  pinIn := Config.freePin n
  elapsed := Config.freeElapsed n
  slpDone := Config.freeSlpDone n

/-- The inputs of the next clock. -/
def State.nextClock (s : State) : Clock :=
  match s.clocks with
  | c :: _ => c
  | [] => freeClock s.drawn

/-- The clock's inputs are used up. -/
def takeClock (s : State) : State :=
  match s.clocks with
  | _ :: cs => { s with clocks := cs }
  | [] => { s with drawn := s.drawn + 1 }

/-- What every clock does before its agents move: the time source counts on (R236), `DONE_STB` falls
(R227: "in every other step `DONE_STB` is 0"; log entry 3) and no response is given yet (R190). -/
def beginClock (c : Clock) (s : State) : State :=
  { s with usCount := s.usCount + c.elapsed, doneStb := false, rsp := none }

/-- `SamplePin()` (R10): the level on `pin_in` at this step. -/
def samplePin (c : Clock) : Level := c.pinIn

/-- `SampleTime()` (R10, R236): the low `TW` bits of the true count at this step. -/
def sampleTime (s : State) : Nat := s.usCount % 2 ^ s.cfg.tw

/-- The target level `L` of a measuring phase (R100, R139). -/
def targetLevel : Meas → Level
  | .hs1 => .high
  | .hs2 => .low
  | .hs3 => .high
  | .blo => .low
  | .bhi => .high

/-- The timeout `T` of a measuring phase (R100, R139). -/
def timeoutOf (c : Config) : Meas → Nat
  | .hs1 => c.tHs1
  | .hs2 => c.tHs2
  | .hs3 => c.tHs3
  | .blo => c.tBlo
  | .bhi => c.tBhi

/-- Variant A's temperature integer part `I` (R81). -/
def fieldI (f : Frame) : Nat := (f.get 2).toNat

/-- Variant A's temperature sign flag `S = FRAME[3][7]` (R81). -/
def signA (f : Frame) : Bool := (f.get 3).getLsbD 7

/-- Variant A's temperature tenths `T = FRAME[3][6:0]` (R81). -/
def fieldT (f : Frame) : Nat := ((f.get 3).extractLsb' 0 7).toNat

/-- Variants B and C: humidity `H = (FRAME[0] << 8) + FRAME[1]` (R82). -/
def fieldH (f : Frame) : Nat := (f.get 0).toNat * 2 ^ 8 + (f.get 1).toNat

/-- Variants B and C: temperature sign `S = FRAME[2][7]` (R82). -/
def signBC (f : Frame) : Bool := (f.get 2).getLsbD 7

/-- Variants B and C: temperature magnitude `M = ((FRAME[2] & 0x7F) << 8) + FRAME[3]` (R82). -/
def fieldM (f : Frame) : Nat := (f.get 2 &&& 0x7F#8).toNat * 2 ^ 8 + (f.get 3).toNat

/-- `zext_32(v)` (R9). -/
def zext32 {n : Nat} (v : BitVec n) : Word := v.setWidth 32

/-- `sext_32(v)` (R9). -/
def sext32 {n : Nat} (v : BitVec n) : Word := v.signExtend 32

end Sys2Proof.Machine
end

