-- ==== Sys2Proof/Machine/Flags.lean ====
section
/-! DEFINITION. The status flags (R25, R35, R76): their codes, the `STATUS` word, and what sets them. -/

namespace Sys2Proof.Machine

open Sys2Proof

/-- The numeric status codes (R76, R220). -/
def StatusCode.bits : StatusCode → BitVec 2
  | .ok => 0b00#2
  | .checksumMismatch => 0b01#2
  | .timeout => 0b10#2
  | .noReply => 0b11#2

/-- The `STATUS` word, `zext_32({DONE, BUSY, CODE})` (R76). -/
def statusWord (st : Status) : Word :=
  zext32 (BitVec.ofBool st.done ++ BitVec.ofBool st.busy ++ st.code.bits)

/-- `STATUS.BUSY <- 1` (R130): `CODE` and `DONE` keep the previous read's values. -/
def markBusy (s : State) : State := setStatus { s.status with busy := true } s

/-- The rejection reason `REJ_RESERVED` (R75). -/
def rejReserved : Word := 1#32

/-- The rejection reason `REJ_BUSY` (R75). -/
def rejBusy : Word := 2#32

/-- Bit 2 (`BUSY`) of a response (R84): the test of `WAITDONE`. No response counts as not busy. -/
def responseBusy : Option Response → Bool
  | some r => r.data.getLsbD 2
  | none => false

end Sys2Proof.Machine
end

