-- ==== Sys2Proof/Machine/PulseTimer.lean ====
section
/-! DEFINITION. The pulse timer and the pulse classifier (spec/40_pulse_timer.md). -/

namespace Sys2Proof.Machine

open Sys2Proof

/-- Elapsed time `(tn - t0) mod 2^TW` (R102, R105). -/
def elapsedTime (tw tn t0 : Nat) : Nat := (((tn : Int) - (t0 : Int)) % ((2 ^ tw : Nat) : Int)).toNat

/-- The timeout test `e > T`, "strictly greater" (R102). -/
def timedOut (e timeout : Nat) : Bool := decide (timeout < e)

/-- The result of `PT_START` (R101): no-signal at once when the target level is absent, else none yet. -/
def startResult (target lv : Level) : Option Nat :=
  if lv = target then none else some 0

/-- The result of `PT_POLL` (R102): the level is tested before the timeout. -/
def pollResult (target lv : Level) (e timeout : Nat) : Option Nat :=
  if lv = target then (if timedOut e timeout then some 0 else none) else some e

/-- `PT_START` (R101): what the timer itself writes, and the result when the measurement ends here. -/
def ptStart (m : Meas) (c : Clock) (s : State) : State × Option Nat :=
  match startResult (targetLevel m) (samplePin c) with
  | some r => (s, some r)
  | none => (startTimer (sampleTime s) s, none)

/-- `PT_POLL` (R102): what the timer itself writes, and the result when the measurement ends here. -/
def ptPoll (m : Meas) (c : Clock) (s : State) : State × Option Nat :=
  match pollResult (targetLevel m) (samplePin c) (elapsedTime s.cfg.tw (sampleTime s) s.ptT0)
      (timeoutOf s.cfg m) with
  | some r => (stopTimer s, some r)
  | none => (s, none)

/-- One step of the pulse timer: a start when `PT_RUN = 0`, a poll when `PT_RUN = 1` (R22). -/
def ptStep (m : Meas) (c : Clock) (s : State) : State × Option Nat :=
  if s.ptRun then ptPoll m c s else ptStart m c s

/-- `CLASSIFY(d)` (R108): 1 exactly when the duration is greater than `T_BIT1`. -/
def classify (threshold d : Nat) : Bool := decide (threshold < d)

end Sys2Proof.Machine
end

