-- ==== Sys2Proof/Machine/SensorDecoder.lean ====
section
/-! DEFINITION. The checksum validator and the sensor decoder (spec/42_checksum_decode.md). -/

namespace Sys2Proof.Machine

open Sys2Proof

/-- The 8-bit sum of bytes 0 to 3, carries discarded (R161). -/
def checksumOf (f : Frame) : Byte := f.get 0 + f.get 1 + f.get 2 + f.get 3

/-- `CHECKSUM_OK(FRAME)` (R161). -/
def checksumOk (f : Frame) : Bool := checksumOf f == f.get 4

/-- `HUM_A(FRAME)` (R163): whole percent; byte 1 is ignored. -/
def humA (f : Frame) : Nat := 10 * (f.get 0).toNat

/-- `TEMP_A(FRAME)` (R164): the source's asymmetric sign rule, kept exactly (90_conflicts.md C4). -/
def tempA (f : Frame) : Int :=
  if signA f then -(10 * (fieldI f : Int) + 10 - (fieldT f : Int))
  else 10 * (fieldI f : Int) + (fieldT f : Int)

/-- `HUM_BC(FRAME)` (R165). -/
def humBC (f : Frame) : Nat := fieldH f

/-- `TEMP_BC(FRAME)` (R166): sign and magnitude; a negative zero is 0 (R171). -/
def tempBC (f : Frame) : Int := if signBC f then -(fieldM f : Int) else (fieldM f : Int)

/-- `DECODE(VARIANT, FRAME)` (R162): the humidity in 0.1 % and the temperature in 0.1 °C. -/
def decodeFrame (v : Variant) (f : Frame) : Nat × Int :=
  match v with
  | .A => (humA f, tempA f)
  | .B => (humBC f, tempBC f)
  | .C => (humBC f, tempBC f)

/-- `FAHR(n)` (R167), in 0.01 °F. -/
def fahr (n : Int) : Int := 18 * n + 3200

/-- `KELV(n)` (R168), in 0.01 K. -/
def kelv (n : Int) : Int := 10 * n + 27315

/-- The four Reading registers written together (R170); a signed value as two's complement (R9). -/
def writeReading (h : Nat) (n f k : Int) (s : State) : State :=
  { s with hum := BitVec.ofNat 16 h, tempc := BitVec.ofInt 16 n,
           tempf := BitVec.ofInt 32 f, tempk := BitVec.ofInt 32 k }

/-- `COMMIT_OK(h, n, f, k)` (R170). -/
def commitOk (h : Nat) (n f k : Int) (s : State) : State :=
  goto .idle (emit .ok (setStatus ⟨.ok, false, true⟩ (writeReading h n f k s)))

/-- Decode and commit a frame whose checksum is right (R160). -/
def acceptFrame (s : State) : State :=
  let hn := decodeFrame s.cfg.variant s.frame
  commitOk hn.1 hn.2 (fahr hn.2) (kelv hn.2) s

/-- The `CHK` step (R160). -/
def chkStep (s : State) : State :=
  if checksumOk s.frame then acceptFrame s else raiseFail .checksumMismatch s

end Sys2Proof.Machine
end

