-- ==== Sys2Proof/Machine/Sequencer.lean ====
section
/-! DEFINITION. The read sequencer and the frame assembler (spec/41_read_sequencer.md): what starts a
read, the controller's step in each phase, and the continuations of the measurements. -/

namespace Sys2Proof.Machine

open Sys2Proof

/-- What an accepted `READ` writes beside its response (R130). -/
def startRead (s : State) : State :=
  goto .req (markBusy { s with frame := Frame.zero, bitIdx := 0#6, ptRun := false })

/-- The `REQ` step (R131): the pin driven low, the sleep asked for. -/
def reqStep (s : State) : State :=
  goto .reqWait (askSleep (BitVec.ofNat 16 s.cfg.tReqMs) (drive .out .low s))

/-- The `REQ_WAIT` step (R132): on `slp_done` the pin is released and the handshake begins. -/
def reqWaitStep (c : Clock) (s : State) : State :=
  if c.slpDone then goto (.measure .hs1) (stopTimer (drive .inPu .low (endSleep s))) else s

/-- A handshake continuation (R133 to R135): NoReply on a zero result, else the next phase. -/
def continueHandshake (next : Meas) (r : Nat) (s : State) : State :=
  if r = 0 then raiseFail .noReply s else goto (.measure next) s

/-- The `BLO` continuation (R136): the result is discarded, whatever its value. -/
def continueBlo (s : State) : State := goto (.measure .bhi) s

/-- `((FRAME[j] << 1) + bit)` before it is stored modulo 256 (R137). -/
def shiftedIn (b : Byte) (bit : Bool) : Nat := b.toNat * 2 + bit.toNat

/-- After a bit is stored: `BITIDX` counts on, and the 40th bit leads to `CHK` (R137). -/
def countBit (s : State) : State :=
  goto (if s.bitIdx.toNat + 1 = Config.nBits then .chk else .measure .blo)
    { s with bitIdx := s.bitIdx + 1#6 }

/-- The frame assembler: a classified bit goes into byte `BITIDX // 8` (R137). -/
def assembleBit (bit : Bool) (s : State) : Result :=
  let j := s.bitIdx.toNat / 8
  andThen (memWrite j (shiftedIn (s.frame.get j) bit) s) (fun t => .next (countBit t))

/-- The `BHI` continuation (R137): Timeout on a zero result, else the bit is classified and stored. -/
def continueBhi (r : Nat) (s : State) : Result :=
  if r = 0 then .next (raiseFail .timeout s) else assembleBit (classify s.cfg.tBit1 r) s

/-- The continuation of a measuring phase, with the measurement's result (R133 to R137). -/
def continueMeas (m : Meas) (r : Nat) (s : State) : Result :=
  match m with
  | .hs1 => .next (continueHandshake .hs2 r s)
  | .hs2 => .next (continueHandshake .hs3 r s)
  | .hs3 => .next (continueHandshake .blo r s)
  | .blo => .next (continueBlo s)
  | .bhi => continueBhi r s

/-- A step of a measuring phase: the timer's step, and the continuation in the same step when the
measurement ends (R100). -/
def measureStep (m : Meas) (c : Clock) (s : State) : Result :=
  match ptStep m c s with
  | (t, some r) => continueMeas m r t
  | (t, none) => .next t

/-- One step of the controller (R139). In `IDLE` it takes none. -/
def controllerStep (c : Clock) (s : State) : Result :=
  match s.phase with
  | .idle => .next s
  | .req => .next (reqStep s)
  | .reqWait => .next (reqWaitStep c s)
  | .measure m => measureStep m c s
  | .chk => .next (chkStep s)

end Sys2Proof.Machine
end

