-- ==== Sys2Proof/Machine/HostCommands.lean ====
section
/-! DEFINITION. The meanings of the host commands (spec/43_host_commands.md, R130) and of a reserved
code. Each responds in its own step (R73). -/

namespace Sys2Proof.Machine

open Sys2Proof

/-- `INIT` (R191): responds, changes no state. -/
def execInit (s : State) : Result := .next (respond false 0#32 s)

/-- `READ` (R130): rejected while a read is in flight, else starts one. -/
def execRead (s : State) : Result :=
  if s.status.busy then .next (respond true rejBusy s) else .next (respond false 0#32 (startRead s))

/-- `GET_STATUS` (R192). -/
def execGetStatus (s : State) : Result := .next (respond false (statusWord s.status) s)

/-- `GET_HUM` (R193). -/
def execGetHum (s : State) : Result := .next (respond false (zext32 s.hum) s)

/-- `GET_TEMPC` (R194). -/
def execGetTempc (s : State) : Result := .next (respond false (sext32 s.tempc) s)

/-- `GET_TEMPF` (R195). -/
def execGetTempf (s : State) : Result := .next (respond false s.tempf s)

/-- `GET_TEMPK` (R196). -/
def execGetTempk (s : State) : Result := .next (respond false s.tempk s)

/-- A reserved code (R74, R197): rejected, no state changes. -/
def execReserved (s : State) : Result := .next (respond true rejReserved s)

end Sys2Proof.Machine
end

