-- ==== Sys2Proof/Machine/Dispatch.lean ====
section
/-! DEFINITION. The dispatch of a decoded host command to its meaning (R190). -/

namespace Sys2Proof.Machine

open Sys2Proof

def exec (i : Instr) (s : State) : Host.Outcome State Fault Refusal :=
  match i with
  | .init => Sys2Proof.Machine.execInit s
  | .read => Sys2Proof.Machine.execRead s
  | .getStatus => Sys2Proof.Machine.execGetStatus s
  | .getHum => Sys2Proof.Machine.execGetHum s
  | .getTempc => Sys2Proof.Machine.execGetTempc s
  | .getTempf => Sys2Proof.Machine.execGetTempf s
  | .getTempk => Sys2Proof.Machine.execGetTempk s

end Sys2Proof.Machine
end

