-- ==== Sys2Proof/Machine/Reset.lean ====
section
/-! DEFINITION. Construction (R6) and the reset step (R250). -/

namespace Sys2Proof.Machine

open Sys2Proof

/-- The encoding of `VARIANT` (R6): 3 is no variant. -/
def variantOfCode (code : BitVec 2) : Option Variant :=
  match code.toNat with
  | 0 => some .A
  | 1 => some .B
  | 2 => some .C
  | _ => none

/-- Building an SWPC with `VARIANT = code` and the other parameters of `params`: refused for the value
3 (R6) and for parameters that do not fit their widths (log entry 9). -/
def construct (code : BitVec 2) (params : Config) : Option State :=
  match variantOfCode code with
  | none => none
  | some v =>
    if { params with variant := v : Config }.wf then some (State.resetWith { params with variant := v })
    else none

/-- The reset step (R250): every register at its reset value, no response. The parameters are no
state; the time source, the host's script and the inputs to come are not SWPC's (R236). -/
def resetStep (s : State) : State :=
  { State.resetWith s.cfg with
    script := s.script, clocks := s.clocks, usCount := s.usCount, drawn := s.drawn }

end Sys2Proof.Machine
end

