-- ==== Sys2Proof/Machine/HostAgent.lean ====
section
/-! DEFINITION. The host's side of the command port (R70, R190) and its script (R84). -/

namespace Sys2Proof.Machine

open Sys2Proof

/-- The command on the port in this clock: none when `cmd_valid = 0` (R70). -/
def portCommand (c : Clock) (s : State) : Option Byte :=
  match c.host with
  | .quiet => none
  | .give code => some code
  | .nextLine =>
    match s.script with
    | [] => none
    | line :: _ => some line.code

/-- The host after its line's response: `WAITDONE` is given again while the response has bit 2 set,
every other line is done (R84). -/
def advanceScript (s : State) : State :=
  match s.script with
  | [] => s
  | .waitDone :: rest => if responseBusy s.rsp then s else { s with script := rest }
  | .command _ :: rest => { s with script := rest }
  | .rawByte _ :: rest => { s with script := rest }

/-- The host after its step: only a script line moves its script on. -/
def hostMovesOn (c : Clock) (s : State) : State :=
  match c.host with
  | .quiet => s
  | .give _ => s
  | .nextLine => advanceScript s

/-- A command code on the port: decoded and run, or rejected (R190, R197). -/
def runCode (code : Byte) (s : State) : Result :=
  match decode code with
  | .ok i => exec i s
  | .error (.reserved _) => execReserved s

/-- The host step of a clock (R190): with `cmd_valid = 0` it does nothing and gives no response. -/
def hostStep (c : Clock) (s : State) : Result :=
  match portCommand c s with
  | none => .next s
  | some code => andThen (runCode code s) (fun t => .next (hostMovesOn c t))

/-- The controller's turn in a clock: enabled exactly when `PHASE ≠ IDLE` (R57). -/
def controllerTurn (c : Clock) (s : State) : Result :=
  if c.ctl = true ∧ s.phase ≠ .idle then controllerStep c s else .next s

/-- One clock (R58 item 5, R229, R250): a reset step comes before every other step and no command is
executed in it; else the host step, then the controller's. DEDUCED, log entries 1 and 2. -/
def runClock (c : Clock) (s : State) : Result :=
  if c.rst then .next (resetStep s) else andThen (hostStep c s) (controllerTurn c)

/-- A run of a host script is over (R263). -/
def runIsOver (s : State) : Bool := s.script.isEmpty && decide (s.phase = .idle)

/-- A clock in which the host gives `code` and nothing else happens. -/
def commandClock (code : Byte) : Clock where
  rst := false
  host := .give code
  ctl := false
  pinIn := .high
  elapsed := 0
  slpDone := false

end Sys2Proof.Machine
end

