-- ==== Sys2Proof/Machine/Step.lean ====
section
/-! DEFINITION. One step of the machine: one clock, with its inputs (log entry 1). -/

namespace Sys2Proof.Machine

open Sys2Proof

/-- One step: the next clock's inputs are taken, the clock begins, its agents move. -/
def step (s : State) : Host.Outcome State Fault Refusal :=
  runClock s.nextClock (beginClock s.nextClock (takeClock s))

/-- The state in which the next clock gives the command code `w` (log entry 15). -/
def State.withFetchWord (s : State) (_nbits w : Nat) : State :=
  { s with clocks := commandClock (BitVec.ofNat 8 w) :: s.clocks }

end Sys2Proof.Machine
end

