-- ==== Sys2Proof/Safety.lean ====
section
/-! DEFINITION. What counts as a safe run: the machine never stops, and its state keeps the invariant
the spec gives it (R21 to R25, R30 to R32, R36, R50, R75, R140, R195). -/

namespace Sys2Proof.Machine

open Sys2Proof

/-- A step answers a next state. -/
def State.goesOn (s : State) : Prop := ∃ t, step s = .next t

/-- `k` steps, stopping at the first that answers no next state (the same as `Host.Core.run core k`:
Sys2Proof/Laws/Run.lean). -/
def runSteps : Nat → State → Result
  | 0, s => .next s
  | k + 1, s => andThen (step s) (runSteps k)

/-- The phase measures (R100). -/
def Phase.isMeasuring : Phase → Bool
  | .measure _ => true
  | .idle => false
  | .req => false
  | .reqWait => false
  | .chk => false

/-- How many bits have been received, by phase (R23, R130, R137): none before the bits, fewer than 40
while they arrive, all 40 in `CHK`, at most 40 when idle. -/
def bitsAgree (p : Phase) (n : Nat) : Prop :=
  match p with
  | .idle => n ≤ Config.nBits
  | .req => n = 0
  | .reqWait => n = 0
  | .measure .hs1 => n = 0
  | .measure .hs2 => n = 0
  | .measure .hs3 => n = 0
  | .measure .blo => n < Config.nBits
  | .measure .bhi => n < Config.nBits
  | .chk => n = Config.nBits

/-- The bits of the frame not yet received are zero: byte `j` holds only the `n - 8 j` (at most 8) bits
it has received (R137: "the `mod 256` never discards a bit"). -/
def frameHolds (f : Frame) (n : Nat) : Prop :=
  ∀ j, j < Config.nBytes → (f.get j).toNat < 2 ^ min 8 (n - 8 * j)

/-- No read has succeeded since reset: the Reading registers hold their reset values (R26 to R29). -/
def freshReading (s : State) : Prop := s.hum = 0 ∧ s.tempc = 0 ∧ s.tempf = 0 ∧ s.tempk = 0

/-- Fahrenheit and Kelvin are the exact images of Celsius (R167, R168, R195, R196). -/
def derivedReading (s : State) : Prop :=
  s.tempf.toInt = 18 * s.tempc.toInt + 3200 ∧ s.tempk.toInt = 10 * s.tempc.toInt + 27315

/-- The invariant of the machine. -/
structure State.Inv (s : State) : Prop where
  /-- `STATUS.BUSY = 1` exactly while `PHASE ≠ IDLE` (R36). -/
  busy : s.status.busy = true ↔ s.phase ≠ .idle
  /-- The timer runs only in a measuring phase (R22). -/
  timer : s.ptRun = true → s.phase.isMeasuring = true
  /-- `PT_T0` is a `TW`-bit value (R22). -/
  start : s.ptT0 < 2 ^ s.cfg.tw
  /-- The bit count fits the phase (R23). -/
  bits : bitsAgree s.phase s.bitIdx.toNat
  /-- The frame holds only received bits (R24, R137). -/
  frame : frameHolds s.frame s.bitIdx.toNat
  /-- The pin is never driven high (R140). -/
  low : s.pinOut = .low
  /-- The pin is driven only from `REQ` to the end of the sleep (R140). -/
  driven : s.pinDir = .out ↔ s.phase = .reqWait
  /-- The sleep is asked for only then (R31, R131, R132). -/
  sleep : s.slpReq = true ↔ s.phase = .reqWait
  /-- The completion event comes with an ended read, its code the recorded one (R32, R227). -/
  strobe : s.doneStb = true → s.phase = .idle ∧ s.status.done = true ∧ s.doneCode = s.status.code
  /-- Before any completed read, `CODE` is its reset value and no Reading is written (R25). -/
  fresh : s.status.done = false → s.status.code = .noReply ∧ freshReading s
  /-- The Reading registers agree with one another (R195, R196). -/
  reading : freshReading s ∨ derivedReading s
  /-- A rejection's reason is 1 or 2 (R75). -/
  reason : ∀ r, s.rsp = some r → r.err = true → r.data = rejReserved ∨ r.data = rejBusy

/-- The other level. -/
def opposite : Level → Level
  | .low => .high
  | .high => .low

/-- A clock in which only the controller moves: the pin's level, the microseconds counted since the
clock before, and the sleep driver's answer. -/
def sensorClock (lv : Level) (elapsed : Nat) (slpDone : Bool) : Clock where
  rst := false
  host := .quiet
  ctl := true
  pinIn := lv
  elapsed := elapsed
  slpDone := slpDone

/-- One level on the wire as a measurement sees it: found at the start, `gap` µs after the clock before;
found again at polls that come the listed numbers of µs apart; found gone `last` µs after the last of
them. -/
structure Pulse where
  gap : Nat
  polls : List Nat
  last : Nat
  deriving DecidableEq, Repr

/-- The duration the measurement gives. -/
def Pulse.width (p : Pulse) : Nat := p.polls.sum + p.last

/-- No poll of the pulse comes after its phase's timeout, and its width is a `TW`-bit duration. -/
def Pulse.measurable (c : Config) (m : Meas) (p : Pulse) : Bool :=
  decide (p.polls.sum ≤ timeoutOf c m) && decide (p.width < 2 ^ c.tw)

/-- The clocks of a pulse measured in phase `m`. -/
def Pulse.clocks (m : Meas) (p : Pulse) : List Clock :=
  sensorClock (targetLevel m) p.gap false ::
    (p.polls.map (fun d => sensorClock (targetLevel m) d false) ++
      [sensorClock (opposite (targetLevel m)) p.last false])

/-- One bit on the wire (R79): its low marker and its high pulse. -/
structure BitPulse where
  marker : Pulse
  high : Pulse
  deriving DecidableEq, Repr

/-- A bit's clocks. -/
def BitPulse.clocks (b : BitPulse) : List Clock := b.marker.clocks .blo ++ b.high.clocks .bhi

/-- Everything the outside does in one read: the clocks the sleep driver lets pass, the three
handshake levels (R78), and the bits. -/
structure Waveform where
  waits : List Nat
  turnaround : Pulse
  hold : Pulse
  presence : Pulse
  bits : List BitPulse
  deriving DecidableEq, Repr

/-- The clocks of a whole read: `READ`, `REQ`, `REQ_WAIT`, the measurements, `CHK`. -/
def Waveform.clocks (w : Waveform) : List Clock :=
  commandClock (encode .read) :: sensorClock .high 0 false ::
    (w.waits.map (fun d => sensorClock .low d false) ++
      (sensorClock .low 0 true ::
        (w.turnaround.clocks .hs1 ++ (w.hold.clocks .hs2 ++ (w.presence.clocks .hs3 ++
          (w.bits.flatMap BitPulse.clocks ++ [sensorClock .high 0 false]))))))

/-- A waveform that carries a frame: the handshake levels and the forty high pulses are each measured
with a result other than 0, the markers measured at all (their result is discarded, R136). -/
def Waveform.carriesFrame (c : Config) (w : Waveform) : Bool :=
  w.turnaround.measurable c .hs1 && decide (w.turnaround.width ≠ 0) &&
  w.hold.measurable c .hs2 && decide (w.hold.width ≠ 0) &&
  w.presence.measurable c .hs3 && decide (w.presence.width ≠ 0) &&
  decide (w.bits.length = Config.nBits) &&
  w.bits.all (fun b => b.marker.measurable c .blo && b.high.measurable c .bhi && decide (b.high.width ≠ 0))

/-- The bits a waveform carries, classified (R79, R108): a high pulse longer than `T_BIT1` is a 1. -/
def Waveform.received (c : Config) (w : Waveform) : List Bool :=
  w.bits.map (fun b => decide (c.tBit1 < b.high.width))

/-- Byte `j` of a list of bits: bits `8 j` to `8 j + 7`, the first the most significant (R138). -/
def byteOfBits (bits : List Bool) (j : Nat) : Nat :=
  ((List.range 8).map (fun i => (bits.getD (8 * j + i) false).toNat * 2 ^ (7 - i))).sum

/-- The bits run through the frame assembler one after another (R137). -/
def assembleAll : List Bool → State → Result
  | [], s => .next s
  | b :: bs, s => andThen (assembleBit b s) (assembleAll bs)

/-- A clock that lets the controller and the time source go on: no reset, the controller steps, exactly
one microsecond passes, the sleep driver answers. The host and the wire do as they like. -/
def Clock.isDense (c : Clock) : Bool :=
  !c.rst && c.ctl && decide (c.elapsed = 1) && c.slpDone

/-- A bound on the controller steps of a read when every step takes 1 µs (R139, R261): `REQ`,
`REQ_WAIT` and `CHK`, and for each measurement its start and at most `T + 1` polls. -/
def readBound (c : Config) : Nat :=
  3 + (c.tHs1 + 2) + (c.tHs2 + 2) + (c.tHs3 + 2) + Config.nBits * ((c.tBlo + 2) + (c.tBhi + 2))

end Sys2Proof.Machine
end

