-- ==== Sys2Proof/Certificates/Slice0/Obligations.lean ====
section
/-! DEFINITION. The statements for the provers. Each cites the rule of spec/ it formalises. -/

open Sys2Proof Sys2Proof.Machine

/-! Encoding. -/

/-- R72: the seven assigned codes decode to their commands, and no other code is a command. -/
def Obligations.AssignedCodesAreExactlyTheTable : Prop :=
  ∀ (code : Byte) (i : Instr), decode code = .ok i ↔
    (code, i) ∈ [(0x01#8, Instr.init), (0x02#8, Instr.read), (0x10#8, Instr.getStatus),
      (0x11#8, Instr.getHum), (0x12#8, Instr.getTempc), (0x13#8, Instr.getTempf),
      (0x14#8, Instr.getTempk)]

/-- R71: `GRP` is 0x0 for lifecycle and control, 0x1 for an accessor, every other value reserved. -/
def Obligations.GroupNibbleSeparatesControlFromAccessors : Prop :=
  (∀ i : Instr, (encode i).extractLsb' 4 4 = (if i = .init ∨ i = .read then 0x0#4 else 0x1#4)) ∧
  ∀ code : Byte, code.extractLsb' 4 4 ≠ 0x0#4 → code.extractLsb' 4 4 ≠ 0x1#4 →
    decode code = .error (.reserved code)

/-- R74, R197: the 249 codes 0x00, 0x03 to 0x0F and 0x15 to 0xFF are rejected with `respond(1, 1)`, and
no state changes. -/
def Obligations.ReservedCodesAreRejected : Prop :=
  (∀ (s : State) (code : Byte),
    code = 0x00#8 ∨ (0x03 ≤ code.toNat ∧ code.toNat ≤ 0x0F) ∨ 0x15 ≤ code.toNat →
    runCode code s = .next { s with rsp := some ⟨true, 1#32⟩ }) ∧
  ((List.range 256).filter (fun n => (decodeTableWord 8 n).isNone)).length = 249

/-- Encoding a command and decoding the code gives it back, and each command has one code. -/
def Obligations.EncodeAndDecodeAgree : Prop :=
  (∀ i : Instr, decode (encode i) = .ok i) ∧
  ∀ (i : Instr) (code : Byte), decode code = .ok i → code = encode i

/-- R84: a line that is a mnemonic, `WAITDONE` or `.byte 0xNN` is read as that line, and a comment to
the end of the line changes nothing. That the two digits of `.byte` may be in either case is the model's
choice (log entry 14: R84 does not say). -/
def Obligations.ScriptTextIsReadAsItsLines : Prop :=
  (∀ i : Instr, parseLine i.mnemonic = .ok [.command i]) ∧
  parseLine "WAITDONE".toList = .ok [.waitDone] ∧
  (∀ hi lo : Char, ∀ h l : Nat,
    (hi, h) ∈ "0123456789ABCDEF".toList.zipIdx ++ "0123456789abcdef".toList.zipIdx →
    (lo, l) ∈ "0123456789ABCDEF".toList.zipIdx ++ "0123456789abcdef".toList.zipIdx →
    parseLine (".byte 0x".toList ++ [hi, lo]) = .ok [.rawByte (BitVec.ofNat 8 (16 * h + l))]) ∧
  ∀ text comment : List Char, ';' ∉ text → parseLine (text ++ ';' :: comment) = parseLine text

/-! The step. -/

/-- R190, R57, R58 item 5: with no reset, a code on the port runs first, as the decoded command's
meaning or as the rejection of a reserved code, on the state in which the clock has begun; then the
host's script moves on (R84, and the model's choice of log entry 13) and the controller takes its turn.
That one step is one clock, and that after an accepted `READ` the controller may take the `REQ` step in
that same clock, is the model's inference (log entries 1 and 2). -/
def Obligations.StepRunsTheDecodedCommand : Prop :=
  ∀ (s s0 : State) (c : Clock) (code : Byte), c = s.nextClock → s0 = beginClock c (takeClock s) →
    c.rst = false → portCommand c s0 = some code →
    (∀ i, decode code = .ok i →
      step s = andThen (exec i s0) (fun t => controllerTurn c (hostMovesOn c t))) ∧
    (decode code = .error (.reserved code) →
      step s = controllerTurn c (hostMovesOn c { s0 with rsp := some ⟨true, 1#32⟩ }))

/-- The word placed for the next fetch is run by the very next step, and nothing else is. How a command
is placed, `withFetchWord`, is the model's choice (log entry 15: SWPC has no fetch); that `DONE_STB` falls
and the response is withdrawn as that clock begins is the model's reading (log entries 3 and 10). -/
def Obligations.FetchedWordIsRunNext : Prop :=
  ∀ (s : State) (w : Nat) (i : Instr), decodeTableWord 8 w = some i →
    step (s.withFetchWord 8 w) = exec i { s with doneStb := false, rsp := none }

/-- R57: a clock without reset and without a command is the controller's step, when it is chosen and
`PHASE ≠ IDLE`. -/
def Obligations.StepRunsTheController : Prop :=
  ∀ (s s0 : State) (c : Clock), c = s.nextClock → s0 = beginClock c (takeClock s) →
    c.rst = false → portCommand c s0 = none →
    step s = if c.ctl = true ∧ s.phase ≠ .idle then controllerStep c s0 else .next s0

/-- R57, R190, R234: in `IDLE`, a clock with no reset and no command on the port changes nothing but the
time and the signals of the clock before: every register survives. That `DONE_STB` falls in such a clock is
the model's reading of R227 and R32 (log entry 3), that the response is withdrawn its choice (log entry
10), and the time moves by what the clock says (log entry 5). -/
def Obligations.IdleClocksChangeNothing : Prop :=
  ∀ (s : State) (c : Clock) (cs : List Clock), s.clocks = c :: cs → c.rst = false →
    s.phase = .idle → c.host = .quiet ∨ (c.host = .nextLine ∧ s.script = []) →
    step s = .next { s with
      clocks := cs, usCount := s.usCount + c.elapsed, doneStb := false, rsp := none }

/-- R250, R251: a reset step sets every register to its reset value, gives no response and no
completion event, executes no command, and leaves the parameters alone; it does not affect the time
source (R236), which counts on as the clock says (log entry 5). That the host's script and the inputs to
come stay as they are is the model's choice (log entries 13 and 4). -/
def Obligations.ResetStepSetsEveryRegister : Prop :=
  ∀ (s : State) (c : Clock) (cs : List Clock), s.clocks = c :: cs → c.rst = true →
    step s = .next
      { cfg := s.cfg, phase := .idle, ptRun := false, ptT0 := 0, bitIdx := 0#6,
        frame := ⟨0x00#8, 0x00#8, 0x00#8, 0x00#8, 0x00#8⟩, status := ⟨.noReply, false, false⟩,
        hum := 0#16, tempc := 0#16, tempf := 0#32, tempk := 0#32, pinDir := .inPu, pinOut := .low,
        slpReq := false, slpMs := 0#16, doneStb := false, doneCode := .ok, rsp := none,
        script := s.script, clocks := cs, usCount := s.usCount + c.elapsed, drawn := s.drawn }

/-- R252: after reset SWPC is idle, the pin released, `GET_STATUS` returns 0x00000003 and every Reading
register is 0, whatever the parameters. -/
def Obligations.AfterResetSwpcIsIdleAndReleased : Prop :=
  ∀ c : Config,
    (State.resetWith c).phase = .idle ∧ (State.resetWith c).pinDir = .inPu ∧
    (∃ t, exec .getStatus (State.resetWith c) = .next t ∧ t.rsp = some ⟨false, 0x00000003#32⟩) ∧
    ∀ i ∈ [Instr.getHum, .getTempc, .getTempf, .getTempk],
      ∃ t, exec i (State.resetWith c) = .next t ∧ t.rsp = some ⟨false, 0x00000000#32⟩

/-- R6: 0, 1 and 2 build a machine of variant A, B and C, 3 is refused, and no step changes a
construction parameter. That parameters which do not fit their widths are refused too is the model's
choice (log entry 9), the second clause. -/
def Obligations.VariantIsFixedAtConstruction : Prop :=
  (∀ p : Config, construct 3#2 p = none) ∧
  (∀ (code : BitVec 2) (p : Config), p.wf = false → construct code p = none) ∧
  (∀ p : Config, p.wf = true →
    construct 0#2 p = some (State.resetWith { p with variant := .A }) ∧
    construct 1#2 p = some (State.resetWith { p with variant := .B }) ∧
    construct 2#2 p = some (State.resetWith { p with variant := .C })) ∧
  ∀ s t : State, step s = .next t → t.cfg = s.cfg

/-! The host commands. -/

/-- R191: `INIT` responds (0, 0) in every state and changes nothing. -/
def Obligations.InitRespondsAndChangesNothing : Prop :=
  ∀ s : State, exec .init s = .next { s with rsp := some ⟨false, 0x00000000#32⟩ }

/-- R192, R76: `GET_STATUS` responds with `CODE` in bits 1 to 0 (Ok 0, ChecksumMismatch 1, Timeout 2,
NoReply 3), `BUSY` in bit 2, `DONE` in bit 3 and zero above, and changes nothing. -/
def Obligations.GetStatusReturnsTheStatusWord : Prop :=
  ∀ s : State, ∃ w : Word,
    exec .getStatus s = .next { s with rsp := some ⟨false, w⟩ } ∧
    w.extractLsb' 0 2 =
      (match s.status.code with
        | .ok => 0#2
        | .checksumMismatch => 1#2
        | .timeout => 2#2
        | .noReply => 3#2) ∧
    w.getLsbD 2 = s.status.busy ∧ w.getLsbD 3 = s.status.done ∧ w.extractLsb' 4 28 = 0#28

/-- R193: `GET_HUM` responds with `HUM` zero-extended and changes nothing. -/
def Obligations.GetHumReturnsHumidity : Prop :=
  ∀ s : State, exec .getHum s = .next { s with rsp := some ⟨false, s.hum.zeroExtend 32⟩ }

/-- R194: `GET_TEMPC` responds with `TEMPC` sign-extended and changes nothing. -/
def Obligations.GetTempcReturnsCelsius : Prop :=
  ∀ s : State, exec .getTempc s = .next { s with rsp := some ⟨false, s.tempc.signExtend 32⟩ }

/-- R195's response: `GET_TEMPF` responds with `TEMPF` and changes nothing. -/
def Obligations.GetTempfReturnsFahrenheit : Prop :=
  ∀ s : State, exec .getTempf s = .next { s with rsp := some ⟨false, s.tempf⟩ }

/-- R196's response: `GET_TEMPK` responds with `TEMPK` and changes nothing. -/
def Obligations.GetTempkReturnsKelvin : Prop :=
  ∀ s : State, exec .getTempk s = .next { s with rsp := some ⟨false, s.tempk⟩ }

/-- R77: as numbers, the four accessors return the registers' values, the signed ones with their sign. -/
def Obligations.ResultWordsCarryTheRegisterValues : Prop :=
  ∀ s : State,
    (∃ d, exec .getHum s = .next { s with rsp := some ⟨false, d⟩ } ∧ d.toNat = s.hum.toNat) ∧
    (∃ d, exec .getTempc s = .next { s with rsp := some ⟨false, d⟩ } ∧ d.toInt = s.tempc.toInt) ∧
    (∃ d, exec .getTempf s = .next { s with rsp := some ⟨false, d⟩ } ∧ d.toInt = s.tempf.toInt) ∧
    (∃ d, exec .getTempk s = .next { s with rsp := some ⟨false, d⟩ } ∧ d.toInt = s.tempk.toInt)

/-- R130: `READ` is rejected with `REJ_BUSY` and no state change while a read is in flight; else it
zeroes the frame, `BITIDX` and `PT_RUN`, sets `BUSY`, goes to `REQ` and responds (0, 0). -/
def Obligations.ReadStartsOrIsRejected : Prop :=
  ∀ s : State,
    (s.status.busy = true → exec .read s = .next { s with rsp := some ⟨true, 2#32⟩ }) ∧
    (s.status.busy = false → exec .read s = .next
      { s with frame := ⟨0x00#8, 0x00#8, 0x00#8, 0x00#8, 0x00#8⟩, bitIdx := 0#6, ptRun := false,
               status := { s.status with busy := true }, phase := .req,
               rsp := some ⟨false, 0x00000000#32⟩ })

/-- R55, R198: no code but an accepted `READ` has a side effect: every other code, and every code at all
while a read is in flight, leaves the state as it was but for the response. -/
def Obligations.OnlyAnAcceptedReadHasASideEffect : Prop :=
  ∀ (s : State) (code : Byte), code ≠ 0x02#8 ∨ s.status.busy = true →
    ∃ r : Response, runCode code s = .next { s with rsp := some r }

/-- R75, R230: a rejection is a reserved code with reason 1, whatever `BUSY` is, or a `READ` while busy
with reason 2; every other command responds without error, and no rejection writes anything. -/
def Obligations.RejectionsAreExactlyReservedAndBusy : Prop :=
  ∀ (s : State) (code : Byte), ∃ t r, runCode code s = .next t ∧ t.rsp = some r ∧
    (r.err = true ↔ (∀ i, encode i ≠ code) ∨ (code = 0x02#8 ∧ s.status.busy = true)) ∧
    ((∀ i, encode i ≠ code) → r.data = 1#32) ∧
    (code = 0x02#8 → s.status.busy = true → r.data = 2#32) ∧
    (r.err = true → t = { s with rsp := some r })

/-- R36, R225, R233: a response depends on the host-readable registers alone: two states that agree on
`STATUS` and the Reading registers give every code the same response. -/
def Obligations.ResponsesRevealOnlyReadableRegisters : Prop :=
  ∀ (s s' t t' : State) (code : Byte), s.status = s'.status → s.hum = s'.hum →
    s.tempc = s'.tempc → s.tempf = s'.tempf → s.tempk = s'.tempk →
    runCode code s = .next t → runCode code s' = .next t' → t.rsp = t'.rsp

/-- R84, R59: how a script moves on. A line is given as its one code byte, whatever that is, and is used
up, but for `WAITDONE`: it is given as `GET_STATUS`, and stays the script's next line exactly while the
response has `BUSY` set. The controller takes its turn on the state so left, whatever the line and the
phase; in a clock in which it does not move, a `WAITDONE` changes nothing else. The script as a field of
the host is the model's choice (log entry 13), `DONE_STB` falling in such a clock its reading of R227 (log
entry 3), and the controller's turn in the same clock its inference (log entries 1 and 2). -/
def Obligations.WaitDoneRepeatsWhileBusy : Prop :=
  ((∀ i, (ScriptLine.command i).code = encode i) ∧ ScriptLine.waitDone.code = 0x10#8 ∧
    ∀ b, (ScriptLine.rawByte b).code = b) ∧
  (∀ (s s0 : State) (c : Clock) (line : ScriptLine) (rest : List ScriptLine), c = s.nextClock →
    s0 = beginClock c (takeClock s) → c.rst = false → c.host = .nextLine → s.script = line :: rest →
    ∃ t, runCode line.code s0 = .next t ∧
      step s = controllerTurn c { t with
        script := if line = .waitDone ∧ s.status.busy = true then line :: rest else rest }) ∧
  ∀ (s : State) (c : Clock) (cs : List Clock) (rest : List ScriptLine), s.clocks = c :: cs →
    c.rst = false → c.host = .nextLine → c.ctl = false → s.script = .waitDone :: rest →
    step s = .next { s with
      clocks := cs, usCount := s.usCount + c.elapsed, doneStb := false,
      rsp := some ⟨false, statusWord s.status⟩,
      script := if s.status.busy then .waitDone :: rest else rest }

/-! The controller. -/

/-- R131: the `REQ` step drives the pin low and asks for a sleep of `T_REQ_MS` milliseconds. -/
def Obligations.ReqStepDrivesLowAndAsksForSleep : Prop :=
  ∀ (s : State) (c : Clock), s.phase = .req →
    controllerStep c s = .next
      { s with pinDir := .out, pinOut := .low, slpMs := BitVec.ofNat 16 s.cfg.tReqMs,
               slpReq := true, phase := .reqWait }

/-- R132: the `REQ_WAIT` step waits for `slp_done`, then releases the pin and goes to `HS1`. -/
def Obligations.ReqWaitReleasesThePinWhenSlept : Prop :=
  ∀ (s : State) (c : Clock), s.phase = .reqWait →
    controllerStep c s = if c.slpDone = true
      then .next { s with slpReq := false, pinDir := .inPu, pinOut := .low, ptRun := false,
                          phase := .measure .hs1 }
      else .next s

/-- R101: a measurement start at the target level records the time and runs the timer; off it, the
phase goes on at once with the result 0, the timer's state unchanged. -/
def Obligations.MeasurementStart : Prop :=
  ∀ (s : State) (c : Clock) (m : Meas), s.phase = .measure m → s.ptRun = false →
    controllerStep c s = if c.pinIn = targetLevel m
      then .next { s with ptT0 := s.usCount % 2 ^ s.cfg.tw, ptRun := true }
      else continueMeas m 0 s

/-- R102: a poll tests the level first, then the timeout, strictly; a poll that ends the measurement
stops the timer and hands the result on, any other changes nothing. -/
def Obligations.MeasurementPoll : Prop :=
  ∀ (s : State) (c : Clock) (m : Meas) (e : Nat), s.phase = .measure m → s.ptRun = true →
    (e : Int) = ((s.usCount % 2 ^ s.cfg.tw : Nat) - (s.ptT0 : Int)) % ((2 ^ s.cfg.tw : Nat) : Int) →
    controllerStep c s =
      if c.pinIn ≠ targetLevel m then continueMeas m e { s with ptRun := false }
      else if timeoutOf s.cfg m < e then continueMeas m 0 { s with ptRun := false }
      else .next s

/-- R100, R139: the target levels and the default timeouts of the five measuring phases. -/
def Obligations.MeasurementOperands : Prop :=
  ∀ v : Variant, ∀ m ∈ [Meas.hs1, .hs2, .hs3, .blo, .bhi],
    (targetLevel m, timeoutOf { variant := v } m) =
      match m with
      | .hs1 => (Level.high, 40)
      | .hs2 => (Level.low, 80)
      | .hs3 => (Level.high, 80)
      | .blo => (Level.low, 50)
      | .bhi => (Level.high, 100)

/-- R107: a step of the timer writes only `PT_RUN` and `PT_T0`. -/
def Obligations.TimerWritesOnlyItsOwnState : Prop :=
  ∀ (s t : State) (c : Clock) (m : Meas) (r : Option Nat), ptStep m c s = (t, r) →
    t = { s with ptRun := t.ptRun, ptT0 := t.ptT0 }

/-- R105: across a wrap of the counter the elapsed time is the true one, if that is below `2^TW`. -/
def Obligations.ElapsedTimeSurvivesWrapAround : Prop :=
  ∀ tw t0 t1 : Nat, t0 ≤ t1 → t1 - t0 < 2 ^ tw →
    elapsedTime tw (t1 % 2 ^ tw) (t0 % 2 ^ tw) = t1 - t0

/-- R104: a measurement whose samples are at most 1 µs apart never gives a result above `T + 1`: the
start and every poll that goes on leave an elapsed time of at most `T`, and from such a state the next
sample's result is at most `T + 1`. -/
def Obligations.DensePollsBoundTheResult : Prop :=
  ∀ (s t : State) (c : Clock) (m : Meas),
    (ptStep m c s = (t, none) →
      t.ptRun = true ∧
      elapsedTime t.cfg.tw (t.usCount % 2 ^ t.cfg.tw) t.ptT0 ≤ timeoutOf t.cfg m) ∧
    ∀ r, s.ptRun = true →
      elapsedTime s.cfg.tw (s.usCount % 2 ^ s.cfg.tw) s.ptT0 ≤ timeoutOf s.cfg m →
      c.elapsed ≤ 1 → ptStep m c (beginClock c s) = (t, some r) → r ≤ timeoutOf s.cfg m + 1

/-- R103: the result 0 has three causes and no other: off the target level at the start, a timeout, or
off the level at a poll before the time source has moved. -/
def Obligations.NoSignalHasThreeCauses : Prop :=
  ∀ (s t : State) (c : Clock) (m : Meas) (r : Nat), ptStep m c s = (t, some r) →
    (r = 0 ↔
      (s.ptRun = false ∧ c.pinIn ≠ targetLevel m) ∨
      (s.ptRun = true ∧ c.pinIn = targetLevel m ∧
        timeoutOf s.cfg m < elapsedTime s.cfg.tw (s.usCount % 2 ^ s.cfg.tw) s.ptT0) ∨
      (s.ptRun = true ∧ c.pinIn ≠ targetLevel m ∧
        elapsedTime s.cfg.tw (s.usCount % 2 ^ s.cfg.tw) s.ptT0 = 0))

/-- R108: the classifier gives 1 exactly above `T_BIT1`; with the default, 45 µs is a 0 and 46 µs a 1. -/
def Obligations.ClassifierThreshold : Prop :=
  (∀ threshold d : Nat, classify threshold d = true ↔ threshold < d) ∧
  ∀ v : Variant, classify ({ variant := v } : Config).tBit1 45 = false ∧
    classify ({ variant := v } : Config).tBit1 46 = true

/-- R133, R134, R135: a handshake measurement with result 0 ends the read with NoReply; with any other
result the next phase follows and nothing else changes. -/
def Obligations.HandshakeContinuations : Prop :=
  ∀ (s : State) (r : Nat) (m n : Meas),
    (m, n) ∈ [(Meas.hs1, Meas.hs2), (Meas.hs2, Meas.hs3), (Meas.hs3, Meas.blo)] →
    continueMeas m r s = if r = 0
      then .next { s with status := ⟨.noReply, false, true⟩, ptRun := false, doneStb := true,
                          doneCode := .noReply, phase := .idle }
      else .next { s with phase := .measure n }

/-- R136: the result of the bit marker's measurement is discarded, whatever it is. -/
def Obligations.MarkerResultIsDiscarded : Prop :=
  ∀ (s : State) (r : Nat), continueMeas .blo r s = .next { s with phase := .measure .bhi }

/-- R137: a bit's high pulse with result 0 ends the read with Timeout; otherwise the classified bit is
shifted into byte `BITIDX // 8`, `BITIDX` counts on, and the 40th bit leads to `CHK`. In a state no run
reaches, with `BITIDX` at 40 or more, the byte does not exist and the step is the fault of log entry 11. -/
def Obligations.BitIsShiftedIntoTheFrame : Prop :=
  ∀ (s : State) (r : Nat),
    (r = 0 → continueMeas .bhi r s = .next
      { s with status := ⟨.timeout, false, true⟩, ptRun := false, doneStb := true,
               doneCode := .timeout, phase := .idle }) ∧
    (r ≠ 0 → s.bitIdx.toNat < 40 → ∃ f : Frame,
      continueMeas .bhi r s = .next
        { s with frame := f, bitIdx := s.bitIdx + 1#6,
                 phase := if s.bitIdx = 39#6 then .chk else .measure .blo } ∧
      f.get (s.bitIdx.toNat / 8) =
        (s.frame.get (s.bitIdx.toNat / 8) <<< 1) + (if s.cfg.tBit1 < r then 1#8 else 0#8) ∧
      ∀ j, j < 5 → j ≠ s.bitIdx.toNat / 8 → f.get j = s.frame.get j) ∧
    (r ≠ 0 → 40 ≤ s.bitIdx.toNat →
      continueMeas .bhi r s = .fault (.noFrameByte (s.bitIdx.toNat / 8)))

/-- R224: failure entry records the code, clears `BUSY` and `PT_RUN`, sets `DONE`, gives the completion
event and goes to `IDLE`; nothing else is written. -/
def Obligations.FailureEntry : Prop :=
  ∀ (s : State) (code : StatusCode), raiseFail code s =
    { s with status := ⟨code, false, true⟩, ptRun := false, doneStb := true, doneCode := code,
             phase := .idle }

/-- R160, R161, R170: `CHK` compares byte 4 with the sum of bytes 0 to 3 modulo 256; on a mismatch it is
the failure ChecksumMismatch, else the decoded Reading and the status Ok are committed in this step. -/
def Obligations.ChecksumDecidesTheRead : Prop :=
  ∀ (s : State) (c : Clock), s.phase = .chk →
    controllerStep c s =
      if ((s.frame.get 0).toNat + (s.frame.get 1).toNat + (s.frame.get 2).toNat +
          (s.frame.get 3).toNat) % 256 = (s.frame.get 4).toNat
      then .next
        { s with hum := BitVec.ofNat 16 (decodeFrame s.cfg.variant s.frame).1,
                 tempc := BitVec.ofInt 16 (decodeFrame s.cfg.variant s.frame).2,
                 tempf := BitVec.ofInt 32 (18 * (decodeFrame s.cfg.variant s.frame).2 + 3200),
                 tempk := BitVec.ofInt 32 (10 * (decodeFrame s.cfg.variant s.frame).2 + 27315),
                 status := ⟨.ok, false, true⟩, doneStb := true, doneCode := .ok, phase := .idle }
      else .next
        { s with status := ⟨.checksumMismatch, false, true⟩, ptRun := false, doneStb := true,
                 doneCode := .checksumMismatch, phase := .idle }

/-- R163, R164: Variant A's humidity is ten times byte 0, and its temperature the source's asymmetric
formula over byte 2, the top bit of byte 3 and its low seven bits. -/
def Obligations.VariantADecode : Prop :=
  ∀ f : Frame, decodeFrame .A f =
    (10 * (f.get 0).toNat,
      if 128 ≤ (f.get 3).toNat
      then -(10 * ((f.get 2).toNat : Int) + 10 - (((f.get 3).toNat : Int) - 128))
      else 10 * ((f.get 2).toNat : Int) + ((f.get 3).toNat : Int))

/-- R162, R165, R166: Variants B and C decode alike: a big-endian 16-bit humidity and a sign-magnitude
15-bit temperature. -/
def Obligations.VariantsBAndCDecodeAlike : Prop :=
  ∀ f : Frame, ∀ v ∈ [Variant.B, Variant.C], decodeFrame v f =
    (256 * (f.get 0).toNat + (f.get 1).toNat,
      if 128 ≤ (f.get 2).toNat
      then -(256 * (((f.get 2).toNat : Int) - 128) + ((f.get 3).toNat : Int))
      else 256 * ((f.get 2).toNat : Int) + ((f.get 3).toNat : Int))

/-- R169: the ranges of the decoded values, and that every write of a commit fits its register: the
registers then hold exactly those values (R167, R168, R171). -/
def Obligations.DecodedValuesFitTheirRegisters : Prop :=
  (∀ f : Frame, ∀ h n, decodeFrame .A f = (h, n) →
    h ≤ 2550 ∧ -2560 ≤ n ∧ n ≤ 2677 ∧ -42880 ≤ fahr n ∧ fahr n ≤ 51386 ∧
    1715 ≤ kelv n ∧ kelv n ≤ 54085) ∧
  (∀ f : Frame, ∀ v ∈ [Variant.B, Variant.C], ∀ h n, decodeFrame v f = (h, n) →
    h ≤ 65535 ∧ -32767 ≤ n ∧ n ≤ 32767 ∧ -586606 ≤ fahr n ∧ fahr n ≤ 593006 ∧
    -300355 ≤ kelv n ∧ kelv n ≤ 354985) ∧
  ∀ (s : State) (h : Nat) (n : Int), decodeFrame s.cfg.variant s.frame = (h, n) →
    (acceptFrame s).hum.toNat = h ∧ (acceptFrame s).tempc.toInt = n ∧
    (acceptFrame s).tempf.toInt = 18 * n + 3200 ∧ (acceptFrame s).tempk.toInt = 10 * n + 27315

/-- R141: with the pin low at the `HS1` start the read ends NoReply in that step, and a read that fails
in the handshake has received no bit. -/
def Obligations.AbsentFirstHighIsNoReply : Prop :=
  (∀ (s : State) (c : Clock), s.phase = .measure .hs1 → s.ptRun = false → c.pinIn = .low →
    controllerStep c s = .next
      { s with status := ⟨.noReply, false, true⟩, ptRun := false, doneStb := true,
               doneCode := .noReply, phase := .idle }) ∧
  ∀ (s t : State) (c : Clock), s.Inv → s.doneStb = false → controllerStep c s = .next t →
    t.doneStb = true → t.doneCode = .noReply → t.bitIdx = 0#6 ∧ t.frame = s.frame

/-- R257: a line stuck low after the handshake goes from the bit marker to `BHI` without receiving a bit
and ends there, at the start, in Timeout; a line stuck high during a bit's high pulse or from the
acknowledgment on ends in Timeout or NoReply, and until then nothing changes: no stuck line completes Ok. -/
def Obligations.StuckLinesCannotCompleteOk : Prop :=
  (∀ (s t : State) (c : Clock), s.phase = .measure .blo → c.pinIn = .low →
    controllerStep c s = .next t →
    t.bitIdx = s.bitIdx ∧ t.frame = s.frame ∧
    (t.phase = .measure .blo ∨ (t.phase = .measure .bhi ∧ t.ptRun = false))) ∧
  (∀ (s : State) (c : Clock), s.phase = .measure .bhi → s.ptRun = false → c.pinIn = .low →
    controllerStep c s = .next
      { s with status := ⟨.timeout, false, true⟩, ptRun := false, doneStb := true,
               doneCode := .timeout, phase := .idle }) ∧
  ∀ (m : Meas) (k : StatusCode), (m, k) ∈ [(Meas.hs3, StatusCode.noReply), (Meas.bhi, .timeout)] →
    ∀ (s t : State) (c : Clock), s.phase = .measure m → s.ptRun = true → c.pinIn = .high →
      controllerStep c s = .next t →
      t = s ∨ t = { s with status := ⟨k, false, true⟩, ptRun := false, doneStb := true,
                           doneCode := k, phase := .idle }

/-! Rules about the whole machine. -/

/-- The invariant holds right after reset, whatever the parameters. -/
def Obligations.InvariantHoldsAfterReset : Prop := ∀ c : Config, (State.resetWith c).Inv

/-- R21 to R25, R30 to R32, R36, R75, R140, R195, R196: every step, whatever the inputs, keeps the
invariant: `BUSY` is 1 exactly while `PHASE ≠ IDLE`, the bit count fits the phase, the frame holds only
received bits, the pin is never driven high, Fahrenheit and Kelvin are the images of Celsius. -/
def Obligations.StepKeepsTheInvariant : Prop :=
  ∀ s t : State, s.Inv → step s = .next t → t.Inv

/-- R239: SWPC's rules are total: in a state that meets the invariant no step stops. -/
def Obligations.NoStepStopsUnderTheInvariant : Prop := ∀ s : State, s.Inv → s.goesOn

/-- From reset, with any parameters, any host script and any inputs, no run stops, however long. -/
def Obligations.EveryRunFromResetGoesOn : Prop :=
  ∀ (c : Config) (script : List ScriptLine) (clocks : List Clock) (k : Nat),
    ∃ t, runSteps k { State.resetWith c with script := script, clocks := clocks } = .next t ∧
      t.Inv

/-- R50: the only stop is the fault of a frame byte that does not exist, in phase `BHI` with `BITIDX` at
40 or more (the model's choice for states no run reaches, log entry 11); nothing is refused. -/
def Obligations.OnlyAMissingFrameByteStops : Prop :=
  ∀ s : State, (∀ r, step s ≠ .refused r) ∧
    ∀ f, step s = .fault f →
      s.phase = .measure .bhi ∧ 40 ≤ s.bitIdx.toNat ∧ f = .noFrameByte (s.bitIdx.toNat / 8)

/-- R199, R56: the Reading registers change only in a reset or in the step in which a read completes
Ok, and then all four and the status are written together. -/
def Obligations.ReadingChangesOnlyOnSuccess : Prop :=
  ∀ s t : State, step s = .next t → s.nextClock.rst = false →
    (t.hum = s.hum ∧ t.tempc = s.tempc ∧ t.tempf = s.tempf ∧ t.tempk = s.tempk) ∨
    (s.phase = .chk ∧ t.status = ⟨.ok, false, true⟩ ∧ t.doneStb = true ∧ t.doneCode = .ok ∧
      t.hum.toNat = (decodeFrame s.cfg.variant s.frame).1 ∧
      t.tempc.toInt = (decodeFrame s.cfg.variant s.frame).2 ∧ derivedReading t)

/-- R227: `DONE_STB` is 1 after exactly the steps in which a read leaves flight other than by reset,
with `DONE_CODE` the status recorded; after every other step it is 0 and `DONE_CODE` keeps its value. A
step is here a clock, in which the completion may follow a host step (log entries 1 and 3). -/
def Obligations.CompletionEventMarksTheEndOfARead : Prop :=
  ∀ s t : State, s.Inv → step s = .next t → s.nextClock.rst = false →
    (t.doneStb = true ↔ s.status.busy = true ∧ t.status.busy = false) ∧
    (t.doneStb = true → t.doneCode = t.status.code ∧ t.status.done = true) ∧
    (t.doneStb = false → t.doneCode = s.doneCode ∧ t.status.code = s.status.code)

/-- R21, R139: the phases follow the table; from a measuring phase the only way back is `IDLE`, or
`BHI` to `BLO` between bits. -/
def Obligations.PhasesFollowTheTable : Prop :=
  ∀ (s t : State) (c : Clock), controllerStep c s = .next t →
    (s.phase, t.phase) ∈
      [(Phase.idle, Phase.idle), (.req, .reqWait), (.reqWait, .reqWait),
       (.reqWait, .measure .hs1),
       (.measure .hs1, .measure .hs1), (.measure .hs1, .measure .hs2), (.measure .hs1, .idle),
       (.measure .hs2, .measure .hs2), (.measure .hs2, .measure .hs3), (.measure .hs2, .idle),
       (.measure .hs3, .measure .hs3), (.measure .hs3, .measure .blo), (.measure .hs3, .idle),
       (.measure .blo, .measure .blo), (.measure .blo, .measure .bhi),
       (.measure .bhi, .measure .bhi), (.measure .bhi, .measure .blo), (.measure .bhi, .chk),
       (.measure .bhi, .idle), (.chk, .idle)]

/-- R140: without a reset the pin outputs change only in the `REQ` step, which drives the pin low, and in
the `REQ_WAIT` step that sees `slp_done`, which releases it. A clock that holds the `REQ` step begins in
`REQ`, or in `IDLE` with a `READ` on the port (the same clock: log entry 2); in every other clock, a waiting
`REQ_WAIT` step too, both outputs keep their values. -/
def Obligations.PinIsDrivenOnlyDuringTheRequest : Prop :=
  ∀ s t : State, s.Inv → step s = .next t → s.nextClock.rst = false →
    (t.pinDir = s.pinDir ∧ t.pinOut = s.pinOut) ∨
    ((s.phase = .req ∨ (s.phase = .idle ∧ portCommand s.nextClock s = some 0x02#8)) ∧
      t.phase = .reqWait ∧ t.pinDir = .out ∧ t.pinOut = .low) ∨
    (s.phase = .reqWait ∧ s.nextClock.slpDone = true ∧ t.phase = .measure .hs1 ∧
      t.pinDir = .inPu ∧ t.pinOut = .low)

/-- R236: the true count never decreases, and a reset does not affect it. That it moves on by what the
clock's record says is the model's choice (log entry 5). -/
def Obligations.TrueTimeOnlyMovesForward : Prop :=
  ∀ s t : State, step s = .next t →
    t.usCount = s.usCount + s.nextClock.elapsed ∧ s.usCount ≤ t.usCount

/-- R58 items 3 and 5, R130: in a clock that also holds a controller step the host command sees the
state before that step: the accessors return the old values, and a `READ` in the clock in which the
previous read completes is still rejected. -/
def Obligations.HostCommandSeesTheStateBeforeTheController : Prop :=
  ∀ (s t : State) (c : Clock) (cs : List Clock) (code : Byte), s.clocks = c :: cs → c.rst = false →
    c.host = .give code → step s = .next t →
    (code = 0x10#8 → t.rsp = some ⟨false, statusWord s.status⟩) ∧
    (code = 0x11#8 → t.rsp = some ⟨false, s.hum.zeroExtend 32⟩) ∧
    (code = 0x12#8 → t.rsp = some ⟨false, s.tempc.signExtend 32⟩) ∧
    (code = 0x13#8 → t.rsp = some ⟨false, s.tempf⟩) ∧
    (code = 0x14#8 → t.rsp = some ⟨false, s.tempk⟩) ∧
    (code = 0x02#8 → s.status.busy = true → t.rsp = some ⟨true, 2#32⟩)

/-- R198: while a read is in flight the host cannot disturb it: two clocks that differ only in what the
host does lead to states that differ only in the response and the host's script. -/
def Obligations.HostCannotDisturbAReadInFlight : Prop :=
  ∀ (s : State) (c : Clock) (cs : List Clock) (h : HostTurn), s.status.busy = true → c.rst = false →
    (∀ t, step { s with clocks := c :: cs } = .next t →
      ∃ t', step { s with clocks := { c with host := h } :: cs } = .next t' ∧
        { t with rsp := none, script := [] } = { t' with rsp := none, script := [] }) ∧
    ∀ f, step { s with clocks := c :: cs } = .fault f →
      step { s with clocks := { c with host := h } :: cs } = .fault f

/-- R138: forty bits run through the frame assembler from a zeroed frame leave byte `j` as the sum of
its eight bits, the first the most significant, and lead to `CHK`. -/
def Obligations.FortyBitsAssembleTheFrame : Prop :=
  ∀ (s : State) (bits : List Bool), bits.length = 40 → s.bitIdx = 0#6 →
    (∀ j, j < 5 → s.frame.get j = 0x00#8) →
    ∃ t, assembleAll bits s = .next t ∧ t.phase = .chk ∧ t.bitIdx = 40#6 ∧
      ∀ j, j < 5 → (t.frame.get j).toNat = byteOfBits bits j

/-- R106, R139, R261: when every clock lets the controller step, 1 µs pass and the sleep driver answer,
a read in flight completes within `readBound` clocks, whatever the wire and the host do. That time
passes and the driver answers are the premises of R236 and R237, taken here as hypotheses, and so is that
no timeout reaches the counter's range, `T + 1 < 2^TW` for every phase. The bound counts clocks (log entry
1). -/
def Obligations.DenselyPolledReadCompletes : Prop :=
  ∀ s : State, s.Inv → s.status.busy = true → (∀ m, timeoutOf s.cfg m + 1 < 2 ^ s.cfg.tw) →
    readBound s.cfg ≤ s.clocks.length → (∀ c ∈ s.clocks, c.isDense = true) →
    ∃ k t, 1 ≤ k ∧ k ≤ readBound s.cfg ∧ runSteps k s = .next t ∧ t.doneStb = true

/-- R160, R138, R223, R170, and §8's property "For all valid 5-byte frames ... the read operation ...
yields status Ok": from any state with no read in flight, a `READ` followed by a waveform that carries
forty bits ends in the clock of `CHK`, with the frame those bits spell; the status is Ok and the Reading
the decoded one when byte 4 is the sum of the others, else ChecksumMismatch with the Reading left
untouched. -/
def Obligations.WaveformIsReceivedAndDecided : Prop :=
  ∀ (s : State) (w : Waveform) (rest : List Clock), s.status.busy = false →
    w.carriesFrame s.cfg = true → s.clocks = w.clocks ++ rest →
    ∃ t, runSteps w.clocks.length s = .next t ∧ t.clocks = rest ∧ t.phase = .idle ∧
      t.doneStb = true ∧
      (∀ j, j < 5 → (t.frame.get j).toNat = byteOfBits (w.received s.cfg) j) ∧
      if ((t.frame.get 0).toNat + (t.frame.get 1).toNat + (t.frame.get 2).toNat +
          (t.frame.get 3).toNat) % 256 = (t.frame.get 4).toNat
      then t.status = ⟨.ok, false, true⟩ ∧ t.doneCode = .ok ∧
        t.hum.toNat = (decodeFrame s.cfg.variant t.frame).1 ∧
        t.tempc.toInt = (decodeFrame s.cfg.variant t.frame).2 ∧ derivedReading t
      else t.status = ⟨.checksumMismatch, false, true⟩ ∧ t.doneCode = .checksumMismatch ∧
        t.hum = s.hum ∧ t.tempc = s.tempc ∧ t.tempf = s.tempf ∧ t.tempk = s.tempk
end

