-- ==== Sys2Proof/Laws/State.lean ====
section
/-! SUPPORT. What each operation on State does to each field: one lemma per field per operation, so that
no proof unfolds a record update. -/

namespace Sys2Proof.Machine

open Sys2Proof

@[simp] theorem nBytes_eq : Config.nBytes = 5 := rfl

@[simp] theorem nBits_eq : Config.nBits = 40 := rfl

/-! The fields after `storeByte`. -/
@[simp] theorem storeByte_cfg (i : Nat) (v : Byte) (s : State) : (storeByte i v s).cfg = s.cfg := rfl
@[simp] theorem storeByte_phase (i : Nat) (v : Byte) (s : State) : (storeByte i v s).phase = s.phase := rfl
@[simp] theorem storeByte_ptRun (i : Nat) (v : Byte) (s : State) : (storeByte i v s).ptRun = s.ptRun := rfl
@[simp] theorem storeByte_ptT0 (i : Nat) (v : Byte) (s : State) : (storeByte i v s).ptT0 = s.ptT0 := rfl
@[simp] theorem storeByte_bitIdx (i : Nat) (v : Byte) (s : State) : (storeByte i v s).bitIdx = s.bitIdx := rfl
@[simp] theorem storeByte_frame (i : Nat) (v : Byte) (s : State) : (storeByte i v s).frame = s.frame.set i v := rfl
@[simp] theorem storeByte_status (i : Nat) (v : Byte) (s : State) : (storeByte i v s).status = s.status := rfl
@[simp] theorem storeByte_hum (i : Nat) (v : Byte) (s : State) : (storeByte i v s).hum = s.hum := rfl
@[simp] theorem storeByte_tempc (i : Nat) (v : Byte) (s : State) : (storeByte i v s).tempc = s.tempc := rfl
@[simp] theorem storeByte_tempf (i : Nat) (v : Byte) (s : State) : (storeByte i v s).tempf = s.tempf := rfl
@[simp] theorem storeByte_tempk (i : Nat) (v : Byte) (s : State) : (storeByte i v s).tempk = s.tempk := rfl
@[simp] theorem storeByte_pinDir (i : Nat) (v : Byte) (s : State) : (storeByte i v s).pinDir = s.pinDir := rfl
@[simp] theorem storeByte_pinOut (i : Nat) (v : Byte) (s : State) : (storeByte i v s).pinOut = s.pinOut := rfl
@[simp] theorem storeByte_slpReq (i : Nat) (v : Byte) (s : State) : (storeByte i v s).slpReq = s.slpReq := rfl
@[simp] theorem storeByte_slpMs (i : Nat) (v : Byte) (s : State) : (storeByte i v s).slpMs = s.slpMs := rfl
@[simp] theorem storeByte_doneStb (i : Nat) (v : Byte) (s : State) : (storeByte i v s).doneStb = s.doneStb := rfl
@[simp] theorem storeByte_doneCode (i : Nat) (v : Byte) (s : State) : (storeByte i v s).doneCode = s.doneCode := rfl
@[simp] theorem storeByte_rsp (i : Nat) (v : Byte) (s : State) : (storeByte i v s).rsp = s.rsp := rfl
@[simp] theorem storeByte_script (i : Nat) (v : Byte) (s : State) : (storeByte i v s).script = s.script := rfl
@[simp] theorem storeByte_clocks (i : Nat) (v : Byte) (s : State) : (storeByte i v s).clocks = s.clocks := rfl
@[simp] theorem storeByte_usCount (i : Nat) (v : Byte) (s : State) : (storeByte i v s).usCount = s.usCount := rfl
@[simp] theorem storeByte_drawn (i : Nat) (v : Byte) (s : State) : (storeByte i v s).drawn = s.drawn := rfl

/-! The fields after `respond`. -/
@[simp] theorem respond_cfg (e : Bool) (d : Word) (s : State) : (respond e d s).cfg = s.cfg := rfl
@[simp] theorem respond_phase (e : Bool) (d : Word) (s : State) : (respond e d s).phase = s.phase := rfl
@[simp] theorem respond_ptRun (e : Bool) (d : Word) (s : State) : (respond e d s).ptRun = s.ptRun := rfl
@[simp] theorem respond_ptT0 (e : Bool) (d : Word) (s : State) : (respond e d s).ptT0 = s.ptT0 := rfl
@[simp] theorem respond_bitIdx (e : Bool) (d : Word) (s : State) : (respond e d s).bitIdx = s.bitIdx := rfl
@[simp] theorem respond_frame (e : Bool) (d : Word) (s : State) : (respond e d s).frame = s.frame := rfl
@[simp] theorem respond_status (e : Bool) (d : Word) (s : State) : (respond e d s).status = s.status := rfl
@[simp] theorem respond_hum (e : Bool) (d : Word) (s : State) : (respond e d s).hum = s.hum := rfl
@[simp] theorem respond_tempc (e : Bool) (d : Word) (s : State) : (respond e d s).tempc = s.tempc := rfl
@[simp] theorem respond_tempf (e : Bool) (d : Word) (s : State) : (respond e d s).tempf = s.tempf := rfl
@[simp] theorem respond_tempk (e : Bool) (d : Word) (s : State) : (respond e d s).tempk = s.tempk := rfl
@[simp] theorem respond_pinDir (e : Bool) (d : Word) (s : State) : (respond e d s).pinDir = s.pinDir := rfl
@[simp] theorem respond_pinOut (e : Bool) (d : Word) (s : State) : (respond e d s).pinOut = s.pinOut := rfl
@[simp] theorem respond_slpReq (e : Bool) (d : Word) (s : State) : (respond e d s).slpReq = s.slpReq := rfl
@[simp] theorem respond_slpMs (e : Bool) (d : Word) (s : State) : (respond e d s).slpMs = s.slpMs := rfl
@[simp] theorem respond_doneStb (e : Bool) (d : Word) (s : State) : (respond e d s).doneStb = s.doneStb := rfl
@[simp] theorem respond_doneCode (e : Bool) (d : Word) (s : State) : (respond e d s).doneCode = s.doneCode := rfl
@[simp] theorem respond_rsp (e : Bool) (d : Word) (s : State) : (respond e d s).rsp = some ⟨e, d⟩ := rfl
@[simp] theorem respond_script (e : Bool) (d : Word) (s : State) : (respond e d s).script = s.script := rfl
@[simp] theorem respond_clocks (e : Bool) (d : Word) (s : State) : (respond e d s).clocks = s.clocks := rfl
@[simp] theorem respond_usCount (e : Bool) (d : Word) (s : State) : (respond e d s).usCount = s.usCount := rfl
@[simp] theorem respond_drawn (e : Bool) (d : Word) (s : State) : (respond e d s).drawn = s.drawn := rfl

/-! The fields after `drive`. -/
@[simp] theorem drive_cfg (d : PinDir) (l : Level) (s : State) : (drive d l s).cfg = s.cfg := rfl
@[simp] theorem drive_phase (d : PinDir) (l : Level) (s : State) : (drive d l s).phase = s.phase := rfl
@[simp] theorem drive_ptRun (d : PinDir) (l : Level) (s : State) : (drive d l s).ptRun = s.ptRun := rfl
@[simp] theorem drive_ptT0 (d : PinDir) (l : Level) (s : State) : (drive d l s).ptT0 = s.ptT0 := rfl
@[simp] theorem drive_bitIdx (d : PinDir) (l : Level) (s : State) : (drive d l s).bitIdx = s.bitIdx := rfl
@[simp] theorem drive_frame (d : PinDir) (l : Level) (s : State) : (drive d l s).frame = s.frame := rfl
@[simp] theorem drive_status (d : PinDir) (l : Level) (s : State) : (drive d l s).status = s.status := rfl
@[simp] theorem drive_hum (d : PinDir) (l : Level) (s : State) : (drive d l s).hum = s.hum := rfl
@[simp] theorem drive_tempc (d : PinDir) (l : Level) (s : State) : (drive d l s).tempc = s.tempc := rfl
@[simp] theorem drive_tempf (d : PinDir) (l : Level) (s : State) : (drive d l s).tempf = s.tempf := rfl
@[simp] theorem drive_tempk (d : PinDir) (l : Level) (s : State) : (drive d l s).tempk = s.tempk := rfl
@[simp] theorem drive_pinDir (d : PinDir) (l : Level) (s : State) : (drive d l s).pinDir = d := rfl
@[simp] theorem drive_pinOut (d : PinDir) (l : Level) (s : State) : (drive d l s).pinOut = l := rfl
@[simp] theorem drive_slpReq (d : PinDir) (l : Level) (s : State) : (drive d l s).slpReq = s.slpReq := rfl
@[simp] theorem drive_slpMs (d : PinDir) (l : Level) (s : State) : (drive d l s).slpMs = s.slpMs := rfl
@[simp] theorem drive_doneStb (d : PinDir) (l : Level) (s : State) : (drive d l s).doneStb = s.doneStb := rfl
@[simp] theorem drive_doneCode (d : PinDir) (l : Level) (s : State) : (drive d l s).doneCode = s.doneCode := rfl
@[simp] theorem drive_rsp (d : PinDir) (l : Level) (s : State) : (drive d l s).rsp = s.rsp := rfl
@[simp] theorem drive_script (d : PinDir) (l : Level) (s : State) : (drive d l s).script = s.script := rfl
@[simp] theorem drive_clocks (d : PinDir) (l : Level) (s : State) : (drive d l s).clocks = s.clocks := rfl
@[simp] theorem drive_usCount (d : PinDir) (l : Level) (s : State) : (drive d l s).usCount = s.usCount := rfl
@[simp] theorem drive_drawn (d : PinDir) (l : Level) (s : State) : (drive d l s).drawn = s.drawn := rfl

/-! The fields after `askSleep`. -/
@[simp] theorem askSleep_cfg (ms : BitVec 16) (s : State) : (askSleep ms s).cfg = s.cfg := rfl
@[simp] theorem askSleep_phase (ms : BitVec 16) (s : State) : (askSleep ms s).phase = s.phase := rfl
@[simp] theorem askSleep_ptRun (ms : BitVec 16) (s : State) : (askSleep ms s).ptRun = s.ptRun := rfl
@[simp] theorem askSleep_ptT0 (ms : BitVec 16) (s : State) : (askSleep ms s).ptT0 = s.ptT0 := rfl
@[simp] theorem askSleep_bitIdx (ms : BitVec 16) (s : State) : (askSleep ms s).bitIdx = s.bitIdx := rfl
@[simp] theorem askSleep_frame (ms : BitVec 16) (s : State) : (askSleep ms s).frame = s.frame := rfl
@[simp] theorem askSleep_status (ms : BitVec 16) (s : State) : (askSleep ms s).status = s.status := rfl
@[simp] theorem askSleep_hum (ms : BitVec 16) (s : State) : (askSleep ms s).hum = s.hum := rfl
@[simp] theorem askSleep_tempc (ms : BitVec 16) (s : State) : (askSleep ms s).tempc = s.tempc := rfl
@[simp] theorem askSleep_tempf (ms : BitVec 16) (s : State) : (askSleep ms s).tempf = s.tempf := rfl
@[simp] theorem askSleep_tempk (ms : BitVec 16) (s : State) : (askSleep ms s).tempk = s.tempk := rfl
@[simp] theorem askSleep_pinDir (ms : BitVec 16) (s : State) : (askSleep ms s).pinDir = s.pinDir := rfl
@[simp] theorem askSleep_pinOut (ms : BitVec 16) (s : State) : (askSleep ms s).pinOut = s.pinOut := rfl
@[simp] theorem askSleep_slpReq (ms : BitVec 16) (s : State) : (askSleep ms s).slpReq = true := rfl
@[simp] theorem askSleep_slpMs (ms : BitVec 16) (s : State) : (askSleep ms s).slpMs = ms := rfl
@[simp] theorem askSleep_doneStb (ms : BitVec 16) (s : State) : (askSleep ms s).doneStb = s.doneStb := rfl
@[simp] theorem askSleep_doneCode (ms : BitVec 16) (s : State) : (askSleep ms s).doneCode = s.doneCode := rfl
@[simp] theorem askSleep_rsp (ms : BitVec 16) (s : State) : (askSleep ms s).rsp = s.rsp := rfl
@[simp] theorem askSleep_script (ms : BitVec 16) (s : State) : (askSleep ms s).script = s.script := rfl
@[simp] theorem askSleep_clocks (ms : BitVec 16) (s : State) : (askSleep ms s).clocks = s.clocks := rfl
@[simp] theorem askSleep_usCount (ms : BitVec 16) (s : State) : (askSleep ms s).usCount = s.usCount := rfl
@[simp] theorem askSleep_drawn (ms : BitVec 16) (s : State) : (askSleep ms s).drawn = s.drawn := rfl

/-! The fields after `endSleep`. -/
@[simp] theorem endSleep_cfg (s : State) : (endSleep s).cfg = s.cfg := rfl
@[simp] theorem endSleep_phase (s : State) : (endSleep s).phase = s.phase := rfl
@[simp] theorem endSleep_ptRun (s : State) : (endSleep s).ptRun = s.ptRun := rfl
@[simp] theorem endSleep_ptT0 (s : State) : (endSleep s).ptT0 = s.ptT0 := rfl
@[simp] theorem endSleep_bitIdx (s : State) : (endSleep s).bitIdx = s.bitIdx := rfl
@[simp] theorem endSleep_frame (s : State) : (endSleep s).frame = s.frame := rfl
@[simp] theorem endSleep_status (s : State) : (endSleep s).status = s.status := rfl
@[simp] theorem endSleep_hum (s : State) : (endSleep s).hum = s.hum := rfl
@[simp] theorem endSleep_tempc (s : State) : (endSleep s).tempc = s.tempc := rfl
@[simp] theorem endSleep_tempf (s : State) : (endSleep s).tempf = s.tempf := rfl
@[simp] theorem endSleep_tempk (s : State) : (endSleep s).tempk = s.tempk := rfl
@[simp] theorem endSleep_pinDir (s : State) : (endSleep s).pinDir = s.pinDir := rfl
@[simp] theorem endSleep_pinOut (s : State) : (endSleep s).pinOut = s.pinOut := rfl
@[simp] theorem endSleep_slpReq (s : State) : (endSleep s).slpReq = false := rfl
@[simp] theorem endSleep_slpMs (s : State) : (endSleep s).slpMs = s.slpMs := rfl
@[simp] theorem endSleep_doneStb (s : State) : (endSleep s).doneStb = s.doneStb := rfl
@[simp] theorem endSleep_doneCode (s : State) : (endSleep s).doneCode = s.doneCode := rfl
@[simp] theorem endSleep_rsp (s : State) : (endSleep s).rsp = s.rsp := rfl
@[simp] theorem endSleep_script (s : State) : (endSleep s).script = s.script := rfl
@[simp] theorem endSleep_clocks (s : State) : (endSleep s).clocks = s.clocks := rfl
@[simp] theorem endSleep_usCount (s : State) : (endSleep s).usCount = s.usCount := rfl
@[simp] theorem endSleep_drawn (s : State) : (endSleep s).drawn = s.drawn := rfl

/-! The fields after `stopTimer`. -/
@[simp] theorem stopTimer_cfg (s : State) : (stopTimer s).cfg = s.cfg := rfl
@[simp] theorem stopTimer_phase (s : State) : (stopTimer s).phase = s.phase := rfl
@[simp] theorem stopTimer_ptRun (s : State) : (stopTimer s).ptRun = false := rfl
@[simp] theorem stopTimer_ptT0 (s : State) : (stopTimer s).ptT0 = s.ptT0 := rfl
@[simp] theorem stopTimer_bitIdx (s : State) : (stopTimer s).bitIdx = s.bitIdx := rfl
@[simp] theorem stopTimer_frame (s : State) : (stopTimer s).frame = s.frame := rfl
@[simp] theorem stopTimer_status (s : State) : (stopTimer s).status = s.status := rfl
@[simp] theorem stopTimer_hum (s : State) : (stopTimer s).hum = s.hum := rfl
@[simp] theorem stopTimer_tempc (s : State) : (stopTimer s).tempc = s.tempc := rfl
@[simp] theorem stopTimer_tempf (s : State) : (stopTimer s).tempf = s.tempf := rfl
@[simp] theorem stopTimer_tempk (s : State) : (stopTimer s).tempk = s.tempk := rfl
@[simp] theorem stopTimer_pinDir (s : State) : (stopTimer s).pinDir = s.pinDir := rfl
@[simp] theorem stopTimer_pinOut (s : State) : (stopTimer s).pinOut = s.pinOut := rfl
@[simp] theorem stopTimer_slpReq (s : State) : (stopTimer s).slpReq = s.slpReq := rfl
@[simp] theorem stopTimer_slpMs (s : State) : (stopTimer s).slpMs = s.slpMs := rfl
@[simp] theorem stopTimer_doneStb (s : State) : (stopTimer s).doneStb = s.doneStb := rfl
@[simp] theorem stopTimer_doneCode (s : State) : (stopTimer s).doneCode = s.doneCode := rfl
@[simp] theorem stopTimer_rsp (s : State) : (stopTimer s).rsp = s.rsp := rfl
@[simp] theorem stopTimer_script (s : State) : (stopTimer s).script = s.script := rfl
@[simp] theorem stopTimer_clocks (s : State) : (stopTimer s).clocks = s.clocks := rfl
@[simp] theorem stopTimer_usCount (s : State) : (stopTimer s).usCount = s.usCount := rfl
@[simp] theorem stopTimer_drawn (s : State) : (stopTimer s).drawn = s.drawn := rfl

/-! The fields after `startTimer`. -/
@[simp] theorem startTimer_cfg (t : Nat) (s : State) : (startTimer t s).cfg = s.cfg := rfl
@[simp] theorem startTimer_phase (t : Nat) (s : State) : (startTimer t s).phase = s.phase := rfl
@[simp] theorem startTimer_ptRun (t : Nat) (s : State) : (startTimer t s).ptRun = true := rfl
@[simp] theorem startTimer_ptT0 (t : Nat) (s : State) : (startTimer t s).ptT0 = t := rfl
@[simp] theorem startTimer_bitIdx (t : Nat) (s : State) : (startTimer t s).bitIdx = s.bitIdx := rfl
@[simp] theorem startTimer_frame (t : Nat) (s : State) : (startTimer t s).frame = s.frame := rfl
@[simp] theorem startTimer_status (t : Nat) (s : State) : (startTimer t s).status = s.status := rfl
@[simp] theorem startTimer_hum (t : Nat) (s : State) : (startTimer t s).hum = s.hum := rfl
@[simp] theorem startTimer_tempc (t : Nat) (s : State) : (startTimer t s).tempc = s.tempc := rfl
@[simp] theorem startTimer_tempf (t : Nat) (s : State) : (startTimer t s).tempf = s.tempf := rfl
@[simp] theorem startTimer_tempk (t : Nat) (s : State) : (startTimer t s).tempk = s.tempk := rfl
@[simp] theorem startTimer_pinDir (t : Nat) (s : State) : (startTimer t s).pinDir = s.pinDir := rfl
@[simp] theorem startTimer_pinOut (t : Nat) (s : State) : (startTimer t s).pinOut = s.pinOut := rfl
@[simp] theorem startTimer_slpReq (t : Nat) (s : State) : (startTimer t s).slpReq = s.slpReq := rfl
@[simp] theorem startTimer_slpMs (t : Nat) (s : State) : (startTimer t s).slpMs = s.slpMs := rfl
@[simp] theorem startTimer_doneStb (t : Nat) (s : State) : (startTimer t s).doneStb = s.doneStb := rfl
@[simp] theorem startTimer_doneCode (t : Nat) (s : State) : (startTimer t s).doneCode = s.doneCode := rfl
@[simp] theorem startTimer_rsp (t : Nat) (s : State) : (startTimer t s).rsp = s.rsp := rfl
@[simp] theorem startTimer_script (t : Nat) (s : State) : (startTimer t s).script = s.script := rfl
@[simp] theorem startTimer_clocks (t : Nat) (s : State) : (startTimer t s).clocks = s.clocks := rfl
@[simp] theorem startTimer_usCount (t : Nat) (s : State) : (startTimer t s).usCount = s.usCount := rfl
@[simp] theorem startTimer_drawn (t : Nat) (s : State) : (startTimer t s).drawn = s.drawn := rfl

/-! The fields after `goto`. -/
@[simp] theorem goto_cfg (p : Phase) (s : State) : (goto p s).cfg = s.cfg := rfl
@[simp] theorem goto_phase (p : Phase) (s : State) : (goto p s).phase = p := rfl
@[simp] theorem goto_ptRun (p : Phase) (s : State) : (goto p s).ptRun = s.ptRun := rfl
@[simp] theorem goto_ptT0 (p : Phase) (s : State) : (goto p s).ptT0 = s.ptT0 := rfl
@[simp] theorem goto_bitIdx (p : Phase) (s : State) : (goto p s).bitIdx = s.bitIdx := rfl
@[simp] theorem goto_frame (p : Phase) (s : State) : (goto p s).frame = s.frame := rfl
@[simp] theorem goto_status (p : Phase) (s : State) : (goto p s).status = s.status := rfl
@[simp] theorem goto_hum (p : Phase) (s : State) : (goto p s).hum = s.hum := rfl
@[simp] theorem goto_tempc (p : Phase) (s : State) : (goto p s).tempc = s.tempc := rfl
@[simp] theorem goto_tempf (p : Phase) (s : State) : (goto p s).tempf = s.tempf := rfl
@[simp] theorem goto_tempk (p : Phase) (s : State) : (goto p s).tempk = s.tempk := rfl
@[simp] theorem goto_pinDir (p : Phase) (s : State) : (goto p s).pinDir = s.pinDir := rfl
@[simp] theorem goto_pinOut (p : Phase) (s : State) : (goto p s).pinOut = s.pinOut := rfl
@[simp] theorem goto_slpReq (p : Phase) (s : State) : (goto p s).slpReq = s.slpReq := rfl
@[simp] theorem goto_slpMs (p : Phase) (s : State) : (goto p s).slpMs = s.slpMs := rfl
@[simp] theorem goto_doneStb (p : Phase) (s : State) : (goto p s).doneStb = s.doneStb := rfl
@[simp] theorem goto_doneCode (p : Phase) (s : State) : (goto p s).doneCode = s.doneCode := rfl
@[simp] theorem goto_rsp (p : Phase) (s : State) : (goto p s).rsp = s.rsp := rfl
@[simp] theorem goto_script (p : Phase) (s : State) : (goto p s).script = s.script := rfl
@[simp] theorem goto_clocks (p : Phase) (s : State) : (goto p s).clocks = s.clocks := rfl
@[simp] theorem goto_usCount (p : Phase) (s : State) : (goto p s).usCount = s.usCount := rfl
@[simp] theorem goto_drawn (p : Phase) (s : State) : (goto p s).drawn = s.drawn := rfl

/-! The fields after `setStatus`. -/
@[simp] theorem setStatus_cfg (st : Status) (s : State) : (setStatus st s).cfg = s.cfg := rfl
@[simp] theorem setStatus_phase (st : Status) (s : State) : (setStatus st s).phase = s.phase := rfl
@[simp] theorem setStatus_ptRun (st : Status) (s : State) : (setStatus st s).ptRun = s.ptRun := rfl
@[simp] theorem setStatus_ptT0 (st : Status) (s : State) : (setStatus st s).ptT0 = s.ptT0 := rfl
@[simp] theorem setStatus_bitIdx (st : Status) (s : State) : (setStatus st s).bitIdx = s.bitIdx := rfl
@[simp] theorem setStatus_frame (st : Status) (s : State) : (setStatus st s).frame = s.frame := rfl
@[simp] theorem setStatus_status (st : Status) (s : State) : (setStatus st s).status = st := rfl
@[simp] theorem setStatus_hum (st : Status) (s : State) : (setStatus st s).hum = s.hum := rfl
@[simp] theorem setStatus_tempc (st : Status) (s : State) : (setStatus st s).tempc = s.tempc := rfl
@[simp] theorem setStatus_tempf (st : Status) (s : State) : (setStatus st s).tempf = s.tempf := rfl
@[simp] theorem setStatus_tempk (st : Status) (s : State) : (setStatus st s).tempk = s.tempk := rfl
@[simp] theorem setStatus_pinDir (st : Status) (s : State) : (setStatus st s).pinDir = s.pinDir := rfl
@[simp] theorem setStatus_pinOut (st : Status) (s : State) : (setStatus st s).pinOut = s.pinOut := rfl
@[simp] theorem setStatus_slpReq (st : Status) (s : State) : (setStatus st s).slpReq = s.slpReq := rfl
@[simp] theorem setStatus_slpMs (st : Status) (s : State) : (setStatus st s).slpMs = s.slpMs := rfl
@[simp] theorem setStatus_doneStb (st : Status) (s : State) : (setStatus st s).doneStb = s.doneStb := rfl
@[simp] theorem setStatus_doneCode (st : Status) (s : State) : (setStatus st s).doneCode = s.doneCode := rfl
@[simp] theorem setStatus_rsp (st : Status) (s : State) : (setStatus st s).rsp = s.rsp := rfl
@[simp] theorem setStatus_script (st : Status) (s : State) : (setStatus st s).script = s.script := rfl
@[simp] theorem setStatus_clocks (st : Status) (s : State) : (setStatus st s).clocks = s.clocks := rfl
@[simp] theorem setStatus_usCount (st : Status) (s : State) : (setStatus st s).usCount = s.usCount := rfl
@[simp] theorem setStatus_drawn (st : Status) (s : State) : (setStatus st s).drawn = s.drawn := rfl

/-! The fields after `emit`. -/
@[simp] theorem emit_cfg (k : StatusCode) (s : State) : (emit k s).cfg = s.cfg := rfl
@[simp] theorem emit_phase (k : StatusCode) (s : State) : (emit k s).phase = s.phase := rfl
@[simp] theorem emit_ptRun (k : StatusCode) (s : State) : (emit k s).ptRun = s.ptRun := rfl
@[simp] theorem emit_ptT0 (k : StatusCode) (s : State) : (emit k s).ptT0 = s.ptT0 := rfl
@[simp] theorem emit_bitIdx (k : StatusCode) (s : State) : (emit k s).bitIdx = s.bitIdx := rfl
@[simp] theorem emit_frame (k : StatusCode) (s : State) : (emit k s).frame = s.frame := rfl
@[simp] theorem emit_status (k : StatusCode) (s : State) : (emit k s).status = s.status := rfl
@[simp] theorem emit_hum (k : StatusCode) (s : State) : (emit k s).hum = s.hum := rfl
@[simp] theorem emit_tempc (k : StatusCode) (s : State) : (emit k s).tempc = s.tempc := rfl
@[simp] theorem emit_tempf (k : StatusCode) (s : State) : (emit k s).tempf = s.tempf := rfl
@[simp] theorem emit_tempk (k : StatusCode) (s : State) : (emit k s).tempk = s.tempk := rfl
@[simp] theorem emit_pinDir (k : StatusCode) (s : State) : (emit k s).pinDir = s.pinDir := rfl
@[simp] theorem emit_pinOut (k : StatusCode) (s : State) : (emit k s).pinOut = s.pinOut := rfl
@[simp] theorem emit_slpReq (k : StatusCode) (s : State) : (emit k s).slpReq = s.slpReq := rfl
@[simp] theorem emit_slpMs (k : StatusCode) (s : State) : (emit k s).slpMs = s.slpMs := rfl
@[simp] theorem emit_doneStb (k : StatusCode) (s : State) : (emit k s).doneStb = true := rfl
@[simp] theorem emit_doneCode (k : StatusCode) (s : State) : (emit k s).doneCode = k := rfl
@[simp] theorem emit_rsp (k : StatusCode) (s : State) : (emit k s).rsp = s.rsp := rfl
@[simp] theorem emit_script (k : StatusCode) (s : State) : (emit k s).script = s.script := rfl
@[simp] theorem emit_clocks (k : StatusCode) (s : State) : (emit k s).clocks = s.clocks := rfl
@[simp] theorem emit_usCount (k : StatusCode) (s : State) : (emit k s).usCount = s.usCount := rfl
@[simp] theorem emit_drawn (k : StatusCode) (s : State) : (emit k s).drawn = s.drawn := rfl

/-! The fields after `raiseFail`. -/
@[simp] theorem raiseFail_cfg (k : StatusCode) (s : State) : (raiseFail k s).cfg = s.cfg := rfl
@[simp] theorem raiseFail_phase (k : StatusCode) (s : State) : (raiseFail k s).phase = .idle := rfl
@[simp] theorem raiseFail_ptRun (k : StatusCode) (s : State) : (raiseFail k s).ptRun = false := rfl
@[simp] theorem raiseFail_ptT0 (k : StatusCode) (s : State) : (raiseFail k s).ptT0 = s.ptT0 := rfl
@[simp] theorem raiseFail_bitIdx (k : StatusCode) (s : State) : (raiseFail k s).bitIdx = s.bitIdx := rfl
@[simp] theorem raiseFail_frame (k : StatusCode) (s : State) : (raiseFail k s).frame = s.frame := rfl
@[simp] theorem raiseFail_status (k : StatusCode) (s : State) : (raiseFail k s).status = ⟨k, false, true⟩ := rfl
@[simp] theorem raiseFail_hum (k : StatusCode) (s : State) : (raiseFail k s).hum = s.hum := rfl
@[simp] theorem raiseFail_tempc (k : StatusCode) (s : State) : (raiseFail k s).tempc = s.tempc := rfl
@[simp] theorem raiseFail_tempf (k : StatusCode) (s : State) : (raiseFail k s).tempf = s.tempf := rfl
@[simp] theorem raiseFail_tempk (k : StatusCode) (s : State) : (raiseFail k s).tempk = s.tempk := rfl
@[simp] theorem raiseFail_pinDir (k : StatusCode) (s : State) : (raiseFail k s).pinDir = s.pinDir := rfl
@[simp] theorem raiseFail_pinOut (k : StatusCode) (s : State) : (raiseFail k s).pinOut = s.pinOut := rfl
@[simp] theorem raiseFail_slpReq (k : StatusCode) (s : State) : (raiseFail k s).slpReq = s.slpReq := rfl
@[simp] theorem raiseFail_slpMs (k : StatusCode) (s : State) : (raiseFail k s).slpMs = s.slpMs := rfl
@[simp] theorem raiseFail_doneStb (k : StatusCode) (s : State) : (raiseFail k s).doneStb = true := rfl
@[simp] theorem raiseFail_doneCode (k : StatusCode) (s : State) : (raiseFail k s).doneCode = k := rfl
@[simp] theorem raiseFail_rsp (k : StatusCode) (s : State) : (raiseFail k s).rsp = s.rsp := rfl
@[simp] theorem raiseFail_script (k : StatusCode) (s : State) : (raiseFail k s).script = s.script := rfl
@[simp] theorem raiseFail_clocks (k : StatusCode) (s : State) : (raiseFail k s).clocks = s.clocks := rfl
@[simp] theorem raiseFail_usCount (k : StatusCode) (s : State) : (raiseFail k s).usCount = s.usCount := rfl
@[simp] theorem raiseFail_drawn (k : StatusCode) (s : State) : (raiseFail k s).drawn = s.drawn := rfl

/-! The fields after `writeReading`. -/
@[simp] theorem writeReading_cfg (h : Nat) (n f k : Int) (s : State) : (writeReading h n f k s).cfg = s.cfg := rfl
@[simp] theorem writeReading_phase (h : Nat) (n f k : Int) (s : State) : (writeReading h n f k s).phase = s.phase := rfl
@[simp] theorem writeReading_ptRun (h : Nat) (n f k : Int) (s : State) : (writeReading h n f k s).ptRun = s.ptRun := rfl
@[simp] theorem writeReading_ptT0 (h : Nat) (n f k : Int) (s : State) : (writeReading h n f k s).ptT0 = s.ptT0 := rfl
@[simp] theorem writeReading_bitIdx (h : Nat) (n f k : Int) (s : State) : (writeReading h n f k s).bitIdx = s.bitIdx := rfl
@[simp] theorem writeReading_frame (h : Nat) (n f k : Int) (s : State) : (writeReading h n f k s).frame = s.frame := rfl
@[simp] theorem writeReading_status (h : Nat) (n f k : Int) (s : State) : (writeReading h n f k s).status = s.status := rfl
@[simp] theorem writeReading_hum (h : Nat) (n f k : Int) (s : State) : (writeReading h n f k s).hum = BitVec.ofNat 16 h := rfl
@[simp] theorem writeReading_tempc (h : Nat) (n f k : Int) (s : State) : (writeReading h n f k s).tempc = BitVec.ofInt 16 n := rfl
@[simp] theorem writeReading_tempf (h : Nat) (n f k : Int) (s : State) : (writeReading h n f k s).tempf = BitVec.ofInt 32 f := rfl
@[simp] theorem writeReading_tempk (h : Nat) (n f k : Int) (s : State) : (writeReading h n f k s).tempk = BitVec.ofInt 32 k := rfl
@[simp] theorem writeReading_pinDir (h : Nat) (n f k : Int) (s : State) : (writeReading h n f k s).pinDir = s.pinDir := rfl
@[simp] theorem writeReading_pinOut (h : Nat) (n f k : Int) (s : State) : (writeReading h n f k s).pinOut = s.pinOut := rfl
@[simp] theorem writeReading_slpReq (h : Nat) (n f k : Int) (s : State) : (writeReading h n f k s).slpReq = s.slpReq := rfl
@[simp] theorem writeReading_slpMs (h : Nat) (n f k : Int) (s : State) : (writeReading h n f k s).slpMs = s.slpMs := rfl
@[simp] theorem writeReading_doneStb (h : Nat) (n f k : Int) (s : State) : (writeReading h n f k s).doneStb = s.doneStb := rfl
@[simp] theorem writeReading_doneCode (h : Nat) (n f k : Int) (s : State) : (writeReading h n f k s).doneCode = s.doneCode := rfl
@[simp] theorem writeReading_rsp (h : Nat) (n f k : Int) (s : State) : (writeReading h n f k s).rsp = s.rsp := rfl
@[simp] theorem writeReading_script (h : Nat) (n f k : Int) (s : State) : (writeReading h n f k s).script = s.script := rfl
@[simp] theorem writeReading_clocks (h : Nat) (n f k : Int) (s : State) : (writeReading h n f k s).clocks = s.clocks := rfl
@[simp] theorem writeReading_usCount (h : Nat) (n f k : Int) (s : State) : (writeReading h n f k s).usCount = s.usCount := rfl
@[simp] theorem writeReading_drawn (h : Nat) (n f k : Int) (s : State) : (writeReading h n f k s).drawn = s.drawn := rfl

/-! The fields after `commitOk`. -/
@[simp] theorem commitOk_cfg (h : Nat) (n f k : Int) (s : State) : (commitOk h n f k s).cfg = s.cfg := rfl
@[simp] theorem commitOk_phase (h : Nat) (n f k : Int) (s : State) : (commitOk h n f k s).phase = .idle := rfl
@[simp] theorem commitOk_ptRun (h : Nat) (n f k : Int) (s : State) : (commitOk h n f k s).ptRun = s.ptRun := rfl
@[simp] theorem commitOk_ptT0 (h : Nat) (n f k : Int) (s : State) : (commitOk h n f k s).ptT0 = s.ptT0 := rfl
@[simp] theorem commitOk_bitIdx (h : Nat) (n f k : Int) (s : State) : (commitOk h n f k s).bitIdx = s.bitIdx := rfl
@[simp] theorem commitOk_frame (h : Nat) (n f k : Int) (s : State) : (commitOk h n f k s).frame = s.frame := rfl
@[simp] theorem commitOk_status (h : Nat) (n f k : Int) (s : State) : (commitOk h n f k s).status = ⟨.ok, false, true⟩ := rfl
@[simp] theorem commitOk_hum (h : Nat) (n f k : Int) (s : State) : (commitOk h n f k s).hum = BitVec.ofNat 16 h := rfl
@[simp] theorem commitOk_tempc (h : Nat) (n f k : Int) (s : State) : (commitOk h n f k s).tempc = BitVec.ofInt 16 n := rfl
@[simp] theorem commitOk_tempf (h : Nat) (n f k : Int) (s : State) : (commitOk h n f k s).tempf = BitVec.ofInt 32 f := rfl
@[simp] theorem commitOk_tempk (h : Nat) (n f k : Int) (s : State) : (commitOk h n f k s).tempk = BitVec.ofInt 32 k := rfl
@[simp] theorem commitOk_pinDir (h : Nat) (n f k : Int) (s : State) : (commitOk h n f k s).pinDir = s.pinDir := rfl
@[simp] theorem commitOk_pinOut (h : Nat) (n f k : Int) (s : State) : (commitOk h n f k s).pinOut = s.pinOut := rfl
@[simp] theorem commitOk_slpReq (h : Nat) (n f k : Int) (s : State) : (commitOk h n f k s).slpReq = s.slpReq := rfl
@[simp] theorem commitOk_slpMs (h : Nat) (n f k : Int) (s : State) : (commitOk h n f k s).slpMs = s.slpMs := rfl
@[simp] theorem commitOk_doneStb (h : Nat) (n f k : Int) (s : State) : (commitOk h n f k s).doneStb = true := rfl
@[simp] theorem commitOk_doneCode (h : Nat) (n f k : Int) (s : State) : (commitOk h n f k s).doneCode = .ok := rfl
@[simp] theorem commitOk_rsp (h : Nat) (n f k : Int) (s : State) : (commitOk h n f k s).rsp = s.rsp := rfl
@[simp] theorem commitOk_script (h : Nat) (n f k : Int) (s : State) : (commitOk h n f k s).script = s.script := rfl
@[simp] theorem commitOk_clocks (h : Nat) (n f k : Int) (s : State) : (commitOk h n f k s).clocks = s.clocks := rfl
@[simp] theorem commitOk_usCount (h : Nat) (n f k : Int) (s : State) : (commitOk h n f k s).usCount = s.usCount := rfl
@[simp] theorem commitOk_drawn (h : Nat) (n f k : Int) (s : State) : (commitOk h n f k s).drawn = s.drawn := rfl

/-! The fields after `startRead`. -/
@[simp] theorem startRead_cfg (s : State) : (startRead s).cfg = s.cfg := rfl
@[simp] theorem startRead_phase (s : State) : (startRead s).phase = .req := rfl
@[simp] theorem startRead_ptRun (s : State) : (startRead s).ptRun = false := rfl
@[simp] theorem startRead_ptT0 (s : State) : (startRead s).ptT0 = s.ptT0 := rfl
@[simp] theorem startRead_bitIdx (s : State) : (startRead s).bitIdx = 0#6 := rfl
@[simp] theorem startRead_frame (s : State) : (startRead s).frame = Frame.zero := rfl
@[simp] theorem startRead_status (s : State) : (startRead s).status = { s.status with busy := true } := rfl
@[simp] theorem startRead_hum (s : State) : (startRead s).hum = s.hum := rfl
@[simp] theorem startRead_tempc (s : State) : (startRead s).tempc = s.tempc := rfl
@[simp] theorem startRead_tempf (s : State) : (startRead s).tempf = s.tempf := rfl
@[simp] theorem startRead_tempk (s : State) : (startRead s).tempk = s.tempk := rfl
@[simp] theorem startRead_pinDir (s : State) : (startRead s).pinDir = s.pinDir := rfl
@[simp] theorem startRead_pinOut (s : State) : (startRead s).pinOut = s.pinOut := rfl
@[simp] theorem startRead_slpReq (s : State) : (startRead s).slpReq = s.slpReq := rfl
@[simp] theorem startRead_slpMs (s : State) : (startRead s).slpMs = s.slpMs := rfl
@[simp] theorem startRead_doneStb (s : State) : (startRead s).doneStb = s.doneStb := rfl
@[simp] theorem startRead_doneCode (s : State) : (startRead s).doneCode = s.doneCode := rfl
@[simp] theorem startRead_rsp (s : State) : (startRead s).rsp = s.rsp := rfl
@[simp] theorem startRead_script (s : State) : (startRead s).script = s.script := rfl
@[simp] theorem startRead_clocks (s : State) : (startRead s).clocks = s.clocks := rfl
@[simp] theorem startRead_usCount (s : State) : (startRead s).usCount = s.usCount := rfl
@[simp] theorem startRead_drawn (s : State) : (startRead s).drawn = s.drawn := rfl

/-! The fields after `reqStep`. -/
@[simp] theorem reqStep_cfg (s : State) : (reqStep s).cfg = s.cfg := rfl
@[simp] theorem reqStep_phase (s : State) : (reqStep s).phase = .reqWait := rfl
@[simp] theorem reqStep_ptRun (s : State) : (reqStep s).ptRun = s.ptRun := rfl
@[simp] theorem reqStep_ptT0 (s : State) : (reqStep s).ptT0 = s.ptT0 := rfl
@[simp] theorem reqStep_bitIdx (s : State) : (reqStep s).bitIdx = s.bitIdx := rfl
@[simp] theorem reqStep_frame (s : State) : (reqStep s).frame = s.frame := rfl
@[simp] theorem reqStep_status (s : State) : (reqStep s).status = s.status := rfl
@[simp] theorem reqStep_hum (s : State) : (reqStep s).hum = s.hum := rfl
@[simp] theorem reqStep_tempc (s : State) : (reqStep s).tempc = s.tempc := rfl
@[simp] theorem reqStep_tempf (s : State) : (reqStep s).tempf = s.tempf := rfl
@[simp] theorem reqStep_tempk (s : State) : (reqStep s).tempk = s.tempk := rfl
@[simp] theorem reqStep_pinDir (s : State) : (reqStep s).pinDir = .out := rfl
@[simp] theorem reqStep_pinOut (s : State) : (reqStep s).pinOut = .low := rfl
@[simp] theorem reqStep_slpReq (s : State) : (reqStep s).slpReq = true := rfl
@[simp] theorem reqStep_slpMs (s : State) : (reqStep s).slpMs = BitVec.ofNat 16 s.cfg.tReqMs := rfl
@[simp] theorem reqStep_doneStb (s : State) : (reqStep s).doneStb = s.doneStb := rfl
@[simp] theorem reqStep_doneCode (s : State) : (reqStep s).doneCode = s.doneCode := rfl
@[simp] theorem reqStep_rsp (s : State) : (reqStep s).rsp = s.rsp := rfl
@[simp] theorem reqStep_script (s : State) : (reqStep s).script = s.script := rfl
@[simp] theorem reqStep_clocks (s : State) : (reqStep s).clocks = s.clocks := rfl
@[simp] theorem reqStep_usCount (s : State) : (reqStep s).usCount = s.usCount := rfl
@[simp] theorem reqStep_drawn (s : State) : (reqStep s).drawn = s.drawn := rfl

/-! The fields after `countBit`. -/
@[simp] theorem countBit_cfg (s : State) : (countBit s).cfg = s.cfg := rfl
@[simp] theorem countBit_phase (s : State) : (countBit s).phase = if s.bitIdx.toNat + 1 = 40 then .chk else .measure .blo := rfl
@[simp] theorem countBit_ptRun (s : State) : (countBit s).ptRun = s.ptRun := rfl
@[simp] theorem countBit_ptT0 (s : State) : (countBit s).ptT0 = s.ptT0 := rfl
@[simp] theorem countBit_bitIdx (s : State) : (countBit s).bitIdx = s.bitIdx + 1#6 := rfl
@[simp] theorem countBit_frame (s : State) : (countBit s).frame = s.frame := rfl
@[simp] theorem countBit_status (s : State) : (countBit s).status = s.status := rfl
@[simp] theorem countBit_hum (s : State) : (countBit s).hum = s.hum := rfl
@[simp] theorem countBit_tempc (s : State) : (countBit s).tempc = s.tempc := rfl
@[simp] theorem countBit_tempf (s : State) : (countBit s).tempf = s.tempf := rfl
@[simp] theorem countBit_tempk (s : State) : (countBit s).tempk = s.tempk := rfl
@[simp] theorem countBit_pinDir (s : State) : (countBit s).pinDir = s.pinDir := rfl
@[simp] theorem countBit_pinOut (s : State) : (countBit s).pinOut = s.pinOut := rfl
@[simp] theorem countBit_slpReq (s : State) : (countBit s).slpReq = s.slpReq := rfl
@[simp] theorem countBit_slpMs (s : State) : (countBit s).slpMs = s.slpMs := rfl
@[simp] theorem countBit_doneStb (s : State) : (countBit s).doneStb = s.doneStb := rfl
@[simp] theorem countBit_doneCode (s : State) : (countBit s).doneCode = s.doneCode := rfl
@[simp] theorem countBit_rsp (s : State) : (countBit s).rsp = s.rsp := rfl
@[simp] theorem countBit_script (s : State) : (countBit s).script = s.script := rfl
@[simp] theorem countBit_clocks (s : State) : (countBit s).clocks = s.clocks := rfl
@[simp] theorem countBit_usCount (s : State) : (countBit s).usCount = s.usCount := rfl
@[simp] theorem countBit_drawn (s : State) : (countBit s).drawn = s.drawn := rfl

/-! The fields after `beginClock`. -/
@[simp] theorem beginClock_cfg (c : Clock) (s : State) : (beginClock c s).cfg = s.cfg := rfl
@[simp] theorem beginClock_phase (c : Clock) (s : State) : (beginClock c s).phase = s.phase := rfl
@[simp] theorem beginClock_ptRun (c : Clock) (s : State) : (beginClock c s).ptRun = s.ptRun := rfl
@[simp] theorem beginClock_ptT0 (c : Clock) (s : State) : (beginClock c s).ptT0 = s.ptT0 := rfl
@[simp] theorem beginClock_bitIdx (c : Clock) (s : State) : (beginClock c s).bitIdx = s.bitIdx := rfl
@[simp] theorem beginClock_frame (c : Clock) (s : State) : (beginClock c s).frame = s.frame := rfl
@[simp] theorem beginClock_status (c : Clock) (s : State) : (beginClock c s).status = s.status := rfl
@[simp] theorem beginClock_hum (c : Clock) (s : State) : (beginClock c s).hum = s.hum := rfl
@[simp] theorem beginClock_tempc (c : Clock) (s : State) : (beginClock c s).tempc = s.tempc := rfl
@[simp] theorem beginClock_tempf (c : Clock) (s : State) : (beginClock c s).tempf = s.tempf := rfl
@[simp] theorem beginClock_tempk (c : Clock) (s : State) : (beginClock c s).tempk = s.tempk := rfl
@[simp] theorem beginClock_pinDir (c : Clock) (s : State) : (beginClock c s).pinDir = s.pinDir := rfl
@[simp] theorem beginClock_pinOut (c : Clock) (s : State) : (beginClock c s).pinOut = s.pinOut := rfl
@[simp] theorem beginClock_slpReq (c : Clock) (s : State) : (beginClock c s).slpReq = s.slpReq := rfl
@[simp] theorem beginClock_slpMs (c : Clock) (s : State) : (beginClock c s).slpMs = s.slpMs := rfl
@[simp] theorem beginClock_doneStb (c : Clock) (s : State) : (beginClock c s).doneStb = false := rfl
@[simp] theorem beginClock_doneCode (c : Clock) (s : State) : (beginClock c s).doneCode = s.doneCode := rfl
@[simp] theorem beginClock_rsp (c : Clock) (s : State) : (beginClock c s).rsp = none := rfl
@[simp] theorem beginClock_script (c : Clock) (s : State) : (beginClock c s).script = s.script := rfl
@[simp] theorem beginClock_clocks (c : Clock) (s : State) : (beginClock c s).clocks = s.clocks := rfl
@[simp] theorem beginClock_usCount (c : Clock) (s : State) : (beginClock c s).usCount = s.usCount + c.elapsed := rfl
@[simp] theorem beginClock_drawn (c : Clock) (s : State) : (beginClock c s).drawn = s.drawn := rfl

/-! The fields after `resetStep`. -/
@[simp] theorem resetStep_cfg (s : State) : (resetStep s).cfg = s.cfg := rfl
@[simp] theorem resetStep_phase (s : State) : (resetStep s).phase = .idle := rfl
@[simp] theorem resetStep_ptRun (s : State) : (resetStep s).ptRun = false := rfl
@[simp] theorem resetStep_ptT0 (s : State) : (resetStep s).ptT0 = 0 := rfl
@[simp] theorem resetStep_bitIdx (s : State) : (resetStep s).bitIdx = 0#6 := rfl
@[simp] theorem resetStep_frame (s : State) : (resetStep s).frame = Frame.zero := rfl
@[simp] theorem resetStep_status (s : State) : (resetStep s).status = ⟨.noReply, false, false⟩ := rfl
@[simp] theorem resetStep_hum (s : State) : (resetStep s).hum = 0#16 := rfl
@[simp] theorem resetStep_tempc (s : State) : (resetStep s).tempc = 0#16 := rfl
@[simp] theorem resetStep_tempf (s : State) : (resetStep s).tempf = 0#32 := rfl
@[simp] theorem resetStep_tempk (s : State) : (resetStep s).tempk = 0#32 := rfl
@[simp] theorem resetStep_pinDir (s : State) : (resetStep s).pinDir = .inPu := rfl
@[simp] theorem resetStep_pinOut (s : State) : (resetStep s).pinOut = .low := rfl
@[simp] theorem resetStep_slpReq (s : State) : (resetStep s).slpReq = false := rfl
@[simp] theorem resetStep_slpMs (s : State) : (resetStep s).slpMs = 0#16 := rfl
@[simp] theorem resetStep_doneStb (s : State) : (resetStep s).doneStb = false := rfl
@[simp] theorem resetStep_doneCode (s : State) : (resetStep s).doneCode = .ok := rfl
@[simp] theorem resetStep_rsp (s : State) : (resetStep s).rsp = none := rfl
@[simp] theorem resetStep_script (s : State) : (resetStep s).script = s.script := rfl
@[simp] theorem resetStep_clocks (s : State) : (resetStep s).clocks = s.clocks := rfl
@[simp] theorem resetStep_usCount (s : State) : (resetStep s).usCount = s.usCount := rfl
@[simp] theorem resetStep_drawn (s : State) : (resetStep s).drawn = s.drawn := rfl

/-! The fields after `takeClock`. -/
@[simp] theorem takeClock_cfg (s : State) : (takeClock s).cfg = s.cfg := by unfold takeClock; split <;> rfl
@[simp] theorem takeClock_phase (s : State) : (takeClock s).phase = s.phase := by unfold takeClock; split <;> rfl
@[simp] theorem takeClock_ptRun (s : State) : (takeClock s).ptRun = s.ptRun := by unfold takeClock; split <;> rfl
@[simp] theorem takeClock_ptT0 (s : State) : (takeClock s).ptT0 = s.ptT0 := by unfold takeClock; split <;> rfl
@[simp] theorem takeClock_bitIdx (s : State) : (takeClock s).bitIdx = s.bitIdx := by unfold takeClock; split <;> rfl
@[simp] theorem takeClock_frame (s : State) : (takeClock s).frame = s.frame := by unfold takeClock; split <;> rfl
@[simp] theorem takeClock_status (s : State) : (takeClock s).status = s.status := by unfold takeClock; split <;> rfl
@[simp] theorem takeClock_hum (s : State) : (takeClock s).hum = s.hum := by unfold takeClock; split <;> rfl
@[simp] theorem takeClock_tempc (s : State) : (takeClock s).tempc = s.tempc := by unfold takeClock; split <;> rfl
@[simp] theorem takeClock_tempf (s : State) : (takeClock s).tempf = s.tempf := by unfold takeClock; split <;> rfl
@[simp] theorem takeClock_tempk (s : State) : (takeClock s).tempk = s.tempk := by unfold takeClock; split <;> rfl
@[simp] theorem takeClock_pinDir (s : State) : (takeClock s).pinDir = s.pinDir := by unfold takeClock; split <;> rfl
@[simp] theorem takeClock_pinOut (s : State) : (takeClock s).pinOut = s.pinOut := by unfold takeClock; split <;> rfl
@[simp] theorem takeClock_slpReq (s : State) : (takeClock s).slpReq = s.slpReq := by unfold takeClock; split <;> rfl
@[simp] theorem takeClock_slpMs (s : State) : (takeClock s).slpMs = s.slpMs := by unfold takeClock; split <;> rfl
@[simp] theorem takeClock_doneStb (s : State) : (takeClock s).doneStb = s.doneStb := by unfold takeClock; split <;> rfl
@[simp] theorem takeClock_doneCode (s : State) : (takeClock s).doneCode = s.doneCode := by unfold takeClock; split <;> rfl
@[simp] theorem takeClock_rsp (s : State) : (takeClock s).rsp = s.rsp := by unfold takeClock; split <;> rfl
@[simp] theorem takeClock_script (s : State) : (takeClock s).script = s.script := by unfold takeClock; split <;> rfl
@[simp] theorem takeClock_usCount (s : State) : (takeClock s).usCount = s.usCount := by unfold takeClock; split <;> rfl

theorem takeClock_of_cons {s : State} {c : Clock} {cs : List Clock} (h : s.clocks = c :: cs) :
    takeClock s = { s with clocks := cs } := by
  simp [takeClock, h]

theorem nextClock_of_cons {s : State} {c : Clock} {cs : List Clock} (h : s.clocks = c :: cs) :
    s.nextClock = c := by
  simp [State.nextClock, h]

end Sys2Proof.Machine
end

