-- ==== Sys2Proof/Laws/Ops.lean ====
section
/-! SUPPORT. One lemma for each shared operation that says everything it can do. -/

namespace Sys2Proof.Machine

open Sys2Proof

/-! Sequencing. -/

@[simp] theorem andThen_next (s : State) (k : State → Result) : andThen (.next s) k = k s := rfl

@[simp] theorem andThen_fault (f : Fault) (k : State → Result) : andThen (.fault f) k = .fault f := rfl

@[simp] theorem andThen_refused (r : Refusal) (k : State → Result) :
    andThen (.refused r) k = .refused r := rfl

theorem andThen_eq_next {o : Result} {k : State → Result} {t : State} :
    andThen o k = .next t ↔ ∃ u, o = .next u ∧ k u = .next t := by
  cases o <;> simp

theorem andThen_eq_fault {o : Result} {k : State → Result} {f : Fault} :
    andThen o k = .fault f ↔ o = .fault f ∨ ∃ u, o = .next u ∧ k u = .fault f := by
  cases o <;> simp

theorem andThen_eq_refused {o : Result} {k : State → Result} {r : Refusal} :
    andThen o k = .refused r ↔ o = .refused r ∨ ∃ u, o = .next u ∧ k u = .refused r := by
  cases o <;> simp

/-! The frame buffer. -/

theorem frameIndex_cases {i : Nat} (h : i < 5) : i = 0 ∨ i = 1 ∨ i = 2 ∨ i = 3 ∨ i = 4 := by omega

theorem Frame.get_set_same (f : Frame) {i : Nat} (v : Byte) (h : i < 5) : (f.set i v).get i = v := by
  rcases frameIndex_cases h with rfl | rfl | rfl | rfl | rfl <;> rfl

theorem Frame.get_set_other (f : Frame) {i j : Nat} (v : Byte) (hi : i < 5) (hj : j < 5) (h : j ≠ i) :
    (f.set i v).get j = f.get j := by
  rcases frameIndex_cases hi with rfl | rfl | rfl | rfl | rfl <;>
    rcases frameIndex_cases hj with rfl | rfl | rfl | rfl | rfl <;> first | rfl | exact absurd rfl h

@[simp] theorem Frame.get_zero (i : Nat) : Frame.zero.get i = 0#8 := by
  unfold Frame.get; split <;> rfl

theorem memWrite_eq_next {i v : Nat} {s t : State} :
    memWrite i v s = .next t ↔ i < 5 ∧ t = storeByte i (BitVec.ofNat 8 v) s := by
  unfold memWrite; split <;> simp_all [eq_comm]

theorem memWrite_of_lt {i v : Nat} {s : State} (h : i < 5) :
    memWrite i v s = .next (storeByte i (BitVec.ofNat 8 v) s) := by
  simp [memWrite, h]

theorem memWrite_eq_fault {i v : Nat} {s : State} {f : Fault} :
    memWrite i v s = .fault f ↔ 5 ≤ i ∧ f = .noFrameByte i := by
  unfold memWrite; rw [nBytes_eq]; split
  · simp; omega
  · simp [eq_comm]; omega

theorem memWrite_ne_refused {i v : Nat} {s : State} {r : Refusal} : memWrite i v s ≠ .refused r := by
  unfold memWrite; split <;> simp

/-! The pulse timer. -/

/-- Everything one step of the pulse timer can do (R101, R102). -/
theorem ptStep_cases (m : Meas) (c : Clock) (s : State) :
    (s.ptRun = false ∧ c.pinIn = targetLevel m ∧
      ptStep m c s = (startTimer (sampleTime s) s, none)) ∨
    (s.ptRun = false ∧ c.pinIn ≠ targetLevel m ∧ ptStep m c s = (s, some 0)) ∨
    (s.ptRun = true ∧ c.pinIn = targetLevel m ∧
      elapsedTime s.cfg.tw (sampleTime s) s.ptT0 ≤ timeoutOf s.cfg m ∧ ptStep m c s = (s, none)) ∨
    (s.ptRun = true ∧ c.pinIn = targetLevel m ∧
      timeoutOf s.cfg m < elapsedTime s.cfg.tw (sampleTime s) s.ptT0 ∧
      ptStep m c s = (stopTimer s, some 0)) ∨
    (s.ptRun = true ∧ c.pinIn ≠ targetLevel m ∧
      ptStep m c s = (stopTimer s, some (elapsedTime s.cfg.tw (sampleTime s) s.ptT0))) := by
  cases hr : s.ptRun <;> by_cases hp : c.pinIn = targetLevel m
  · simp [ptStep, ptStart, startResult, samplePin, hr, hp]
  · simp [ptStep, ptStart, startResult, samplePin, hr, hp]
  · by_cases ht : timeoutOf s.cfg m < elapsedTime s.cfg.tw (sampleTime s) s.ptT0
    · simp [ptStep, ptPoll, pollResult, timedOut, samplePin, hr, hp, ht]
    · simp [ptStep, ptPoll, pollResult, timedOut, samplePin, hr, hp, ht]; omega
  · simp [ptStep, ptPoll, pollResult, samplePin, hr, hp]

/-! The sequencer. -/

/-- Everything a step of a measuring phase can do: go on measuring, or end with a result that its
continuation takes in the same step. -/
theorem measureStep_cases (m : Meas) (c : Clock) (s : State) :
    (s.ptRun = false ∧ c.pinIn = targetLevel m ∧
      measureStep m c s = .next (startTimer (sampleTime s) s)) ∨
    (s.ptRun = false ∧ c.pinIn ≠ targetLevel m ∧ measureStep m c s = continueMeas m 0 s) ∨
    (s.ptRun = true ∧ c.pinIn = targetLevel m ∧
      elapsedTime s.cfg.tw (sampleTime s) s.ptT0 ≤ timeoutOf s.cfg m ∧ measureStep m c s = .next s) ∨
    (s.ptRun = true ∧ c.pinIn = targetLevel m ∧
      timeoutOf s.cfg m < elapsedTime s.cfg.tw (sampleTime s) s.ptT0 ∧
      measureStep m c s = continueMeas m 0 (stopTimer s)) ∨
    (s.ptRun = true ∧ c.pinIn ≠ targetLevel m ∧
      measureStep m c s =
        continueMeas m (elapsedTime s.cfg.tw (sampleTime s) s.ptT0) (stopTimer s)) := by
  rcases ptStep_cases m c s with ⟨h1, h2, h⟩ | ⟨h1, h2, h⟩ | ⟨h1, h2, h3, h⟩ | ⟨h1, h2, h3, h⟩ | ⟨h1, h2, h⟩
  · exact .inl ⟨h1, h2, by simp [measureStep, h]⟩
  · exact .inr (.inl ⟨h1, h2, by simp [measureStep, h]⟩)
  · exact .inr (.inr (.inl ⟨h1, h2, h3, by simp [measureStep, h]⟩))
  · exact .inr (.inr (.inr (.inl ⟨h1, h2, h3, by simp [measureStep, h]⟩)))
  · exact .inr (.inr (.inr (.inr ⟨h1, h2, by simp [measureStep, h]⟩)))

/-- What storing a bit leaves, when the byte exists (R137). -/
theorem assembleBit_of_lt {bit : Bool} {s : State} (h : s.bitIdx.toNat < 40) :
    assembleBit bit s = .next (countBit (storeByte (s.bitIdx.toNat / 8)
      (BitVec.ofNat 8 (shiftedIn (s.frame.get (s.bitIdx.toNat / 8)) bit)) s)) := by
  simp [assembleBit, memWrite_of_lt (show s.bitIdx.toNat / 8 < 5 by omega)]

theorem assembleBit_eq_next {bit : Bool} {s t : State} (h : assembleBit bit s = .next t) :
    s.bitIdx.toNat < 40 ∧ t = countBit (storeByte (s.bitIdx.toNat / 8)
      (BitVec.ofNat 8 (shiftedIn (s.frame.get (s.bitIdx.toNat / 8)) bit)) s) := by
  obtain ⟨u, hu, ht⟩ := andThen_eq_next.1 h
  obtain ⟨hlt, rfl⟩ := memWrite_eq_next.1 hu
  refine ⟨by omega, ?_⟩
  simpa using ht.symm

theorem assembleBit_of_ge {bit : Bool} {s : State} (h : 40 ≤ s.bitIdx.toNat) :
    assembleBit bit s = .fault (.noFrameByte (s.bitIdx.toNat / 8)) := by
  have h5 : ¬ s.bitIdx.toNat / 8 < 5 := by omega
  simp [assembleBit, memWrite, h5]

/-- Everything a continuation can do (R133 to R137). -/
theorem continueMeas_eq_next {m : Meas} {r : Nat} {s t : State} (h : continueMeas m r s = .next t) :
    (r = 0 ∧ (m = .hs1 ∨ m = .hs2 ∨ m = .hs3) ∧ t = raiseFail .noReply s) ∨
    (r ≠ 0 ∧ m = .hs1 ∧ t = goto (.measure .hs2) s) ∨
    (r ≠ 0 ∧ m = .hs2 ∧ t = goto (.measure .hs3) s) ∨
    (r ≠ 0 ∧ m = .hs3 ∧ t = goto (.measure .blo) s) ∨
    (m = .blo ∧ t = goto (.measure .bhi) s) ∨
    (r = 0 ∧ m = .bhi ∧ t = raiseFail .timeout s) ∨
    (r ≠ 0 ∧ m = .bhi ∧ s.bitIdx.toNat < 40 ∧
      t = countBit (storeByte (s.bitIdx.toNat / 8) (BitVec.ofNat 8
        (shiftedIn (s.frame.get (s.bitIdx.toNat / 8)) (classify s.cfg.tBit1 r))) s)) := by
  cases m
  case blo => simp [continueMeas, continueBlo] at h; simp [h]
  case bhi =>
    simp only [continueMeas, continueBhi] at h
    split at h
    · simp at h; simp_all
    · have := assembleBit_eq_next h
      simp_all
  all_goals
    simp only [continueMeas, continueHandshake] at h
    split at h <;> simp at h <;> simp_all

/-- Everything the controller's step can do, by phase (R139). -/
theorem controllerStep_cases {c : Clock} {s t : State} (h : controllerStep c s = .next t) :
    (s.phase = .idle ∧ t = s) ∨
    (s.phase = .req ∧ t = reqStep s) ∨
    (s.phase = .reqWait ∧ t = reqWaitStep c s) ∨
    (∃ m, s.phase = .measure m ∧ measureStep m c s = .next t) ∨
    (s.phase = .chk ∧ t = chkStep s) := by
  unfold controllerStep at h
  split at h <;> simp_all

theorem reqWaitStep_cases (c : Clock) (s : State) :
    (c.slpDone = true ∧
      reqWaitStep c s = goto (.measure .hs1) (stopTimer (drive .inPu .low (endSleep s)))) ∨
    (c.slpDone = false ∧ reqWaitStep c s = s) := by
  cases h : c.slpDone <;> simp [reqWaitStep, h]

theorem chkStep_cases (s : State) :
    (checksumOk s.frame = true ∧ chkStep s = acceptFrame s) ∨
    (checksumOk s.frame = false ∧ chkStep s = raiseFail .checksumMismatch s) := by
  cases h : checksumOk s.frame <;> simp [chkStep, h]

/-! The command port. -/

/-- Everything a command can do: respond, or start a read (R130, R191 to R196). -/
theorem exec_eq_next {i : Instr} {s t : State} (h : exec i s = .next t) :
    (∃ e d, t = respond e d s ∧ (e = true → i = .read ∧ s.status.busy = true ∧ d = rejBusy)) ∨
    (i = .read ∧ s.status.busy = false ∧ t = respond false 0#32 (startRead s)) := by
  cases i
  case read =>
    simp only [exec, execRead] at h
    split at h
    · left; simp at h; exact ⟨true, rejBusy, h.symm, fun _ => ⟨rfl, by assumption, rfl⟩⟩
    · right; simp at h; simp_all
  all_goals
    left
    simp [exec, execInit, execGetStatus, execGetHum, execGetTempc, execGetTempf, execGetTempk] at h
    exact ⟨false, _, h.symm, by simp⟩

theorem exec_answers (i : Instr) (s : State) : ∃ t, exec i s = .next t := by
  cases i
  case read => simp only [exec, execRead]; split <;> exact ⟨_, rfl⟩
  all_goals exact ⟨_, rfl⟩

/-- Everything a code on the port can do: its command, or the rejection of a reserved code. -/
theorem runCode_cases (code : Byte) (s : State) :
    (∃ i, decode code = .ok i ∧ runCode code s = exec i s) ∨
    (decode code = .error (.reserved code) ∧ runCode code s = .next (respond true rejReserved s)) := by
  cases h : opcodeTable.find? (·.accepts code) with
  | some row =>
    left
    have hd : decode code = .ok row.instr := by unfold decode; rw [h]
    exact ⟨row.instr, hd, by unfold runCode; rw [hd]⟩
  | none =>
    right
    have hd : decode code = .error (.reserved code) := by unfold decode; rw [h]
    exact ⟨hd, by unfold runCode; rw [hd]; rfl⟩

/-- The code 0x02 alone is `READ` (R72). -/
theorem code_of_decode_read {code : Byte} (h : decode code = .ok .read) : code = 0x02#8 := by
  revert h; revert code; decide

/-- A code on the port leaves the state but for a response, or is `READ` and starts a read. -/
theorem runCode_eq_next {code : Byte} {s t : State} (h : runCode code s = .next t) :
    (∃ e d, t = respond e d s ∧ (e = true → d = rejReserved ∨ d = rejBusy)) ∨
    (code = 0x02#8 ∧ s.status.busy = false ∧ t = respond false 0#32 (startRead s)) := by
  rcases runCode_cases code s with ⟨i, hd, hr⟩ | ⟨-, hr⟩
  · rcases exec_eq_next (hr ▸ h) with ⟨e, d, ht, he⟩ | ⟨hi, hb, ht⟩
    · exact .inl ⟨e, d, ht, fun h' => .inr (he h').2.2⟩
    · exact .inr ⟨code_of_decode_read (hi ▸ hd), hb, ht⟩
  · rw [hr] at h
    exact .inl ⟨true, rejReserved, by simpa using h.symm, fun _ => .inl rfl⟩

theorem runCode_answers (code : Byte) (s : State) : ∃ t, runCode code s = .next t := by
  rcases runCode_cases code s with ⟨i, -, hr⟩ | ⟨-, hr⟩
  · rw [hr]; exact exec_answers i s
  · exact ⟨_, hr⟩

/-- The host's move after its step touches its script only. -/
theorem hostMovesOn_eq (c : Clock) (s : State) : ∃ sc, hostMovesOn c s = { s with script := sc } := by
  unfold hostMovesOn advanceScript
  split
  · exact ⟨s.script, rfl⟩
  · exact ⟨s.script, rfl⟩
  · split
    · exact ⟨s.script, rfl⟩
    · split
      · exact ⟨s.script, rfl⟩
      · exact ⟨_, rfl⟩
    · exact ⟨_, rfl⟩
    · exact ⟨_, rfl⟩

/-- The test of `WAITDONE` on a `GET_STATUS` response (R84, R76). -/
@[simp] theorem responseBusy_statusWord (e : Bool) (st : Status) :
    responseBusy (some ⟨e, statusWord st⟩) = st.busy := by
  rcases st with ⟨k, b, d⟩
  cases e <;> cases k <;> cases b <;> cases d <;> decide

/-- How a script line moves on (R84): used up, unless it is `WAITDONE` and the response says busy. -/
theorem hostMovesOn_of_line {c : Clock} {s : State} {line : ScriptLine} {rest : List ScriptLine}
    (hc : c.host = .nextLine) (hs : s.script = line :: rest) :
    hostMovesOn c s = { s with
      script := if line = .waitDone ∧ responseBusy s.rsp = true then line :: rest else rest } := by
  unfold hostMovesOn advanceScript
  rw [hc]; dsimp only; rw [hs]
  cases line with
  | command i => simp
  | rawByte b => simp
  | waitDone => cases hb : responseBusy s.rsp <;> simp [← hs]

/-- Everything a host step can do: nothing, a response, or the start of a read. -/
theorem hostStep_eq_next {c : Clock} {s t : State} (h : hostStep c s = .next t) :
    (portCommand c s = none ∧ t = s) ∨
    (∃ e d sc, t = { respond e d s with script := sc } ∧ (e = true → d = rejReserved ∨ d = rejBusy)) ∨
    (portCommand c s = some 0x02#8 ∧ s.status.busy = false ∧
      ∃ sc, t = { respond false 0#32 (startRead s) with script := sc }) := by
  unfold hostStep at h
  split at h
  · exact .inl ⟨by assumption, by simpa using h.symm⟩
  · rename_i code hcode
    obtain ⟨u, hu, ht⟩ := andThen_eq_next.1 h
    obtain ⟨sc, hsc⟩ := hostMovesOn_eq c u
    rw [hsc] at ht
    have ht : t = { u with script := sc } := by simpa using ht.symm
    rcases runCode_eq_next hu with ⟨e, d, rfl, he⟩ | ⟨h2, hb, rfl⟩
    · exact .inr (.inl ⟨e, d, sc, ht, he⟩)
    · exact .inr (.inr ⟨h2 ▸ hcode, hb, sc, ht⟩)

theorem hostStep_answers (c : Clock) (s : State) : ∃ t, hostStep c s = .next t := by
  unfold hostStep
  split
  · exact ⟨_, rfl⟩
  · obtain ⟨u, hu⟩ := runCode_answers ‹_› s
    rw [hu]; exact ⟨_, rfl⟩

@[simp] theorem portCommand_beginClock (c c' : Clock) (s : State) :
    portCommand c (beginClock c' s) = portCommand c s := rfl

@[simp] theorem portCommand_takeClock (c : Clock) (s : State) :
    portCommand c (takeClock s) = portCommand c s := by
  unfold portCommand takeClock; cases s.clocks <;> rfl

/-- Everything the controller's turn can do: nothing, or the controller's step. -/
theorem controllerTurn_eq_next {c : Clock} {s t : State} (h : controllerTurn c s = .next t) :
    ((c.ctl = false ∨ s.phase = .idle) ∧ t = s) ∨
    (c.ctl = true ∧ s.phase ≠ .idle ∧ controllerStep c s = .next t) := by
  unfold controllerTurn at h
  split at h
  · rename_i hc; exact .inr ⟨hc.1, hc.2, h⟩
  · rename_i hc
    refine .inl ⟨?_, by simpa using h.symm⟩
    cases hctl : c.ctl
    · exact .inl rfl
    · right; by_contra hp; exact hc ⟨hctl, hp⟩

/-- Everything a step can do: a reset, or the host's step and then the controller's turn. -/
theorem step_eq_next {s t : State} (h : step s = .next t) :
    (s.nextClock.rst = true ∧ t = resetStep (beginClock s.nextClock (takeClock s))) ∨
    (s.nextClock.rst = false ∧ ∃ u,
      hostStep s.nextClock (beginClock s.nextClock (takeClock s)) = .next u ∧
      controllerTurn s.nextClock u = .next t) := by
  unfold step runClock at h
  split at h
  · exact .inl ⟨by assumption, by simpa using h.symm⟩
  · exact .inr ⟨by simpa using ‹¬ s.nextClock.rst = true›, andThen_eq_next.1 h⟩

/-- A step on a listed clock. -/
theorem step_of_cons {s : State} {c : Clock} {cs : List Clock} (h : s.clocks = c :: cs) :
    step s = runClock c (beginClock c { s with clocks := cs }) := by
  simp [step, nextClock_of_cons h, takeClock_of_cons h]

end Sys2Proof.Machine
end

