-- ==== Sys2Proof/Laws/Frame.lean ====
section
/-! SUPPORT. What each part of a clock leaves alone. -/

namespace Sys2Proof.Machine

open Sys2Proof

/-- A host step leaves everything alone but the response, the script, and what starts a read. -/
theorem hostStep_frame {c : Clock} {s t : State} (h : hostStep c s = .next t) :
    t.cfg = s.cfg ∧ t.usCount = s.usCount ∧ t.clocks = s.clocks ∧ t.drawn = s.drawn ∧
    t.hum = s.hum ∧ t.tempc = s.tempc ∧ t.tempf = s.tempf ∧ t.tempk = s.tempk ∧
    t.pinDir = s.pinDir ∧ t.pinOut = s.pinOut ∧ t.slpReq = s.slpReq ∧ t.slpMs = s.slpMs ∧
    t.doneStb = s.doneStb ∧ t.doneCode = s.doneCode ∧ t.ptT0 = s.ptT0 ∧
    t.status.code = s.status.code ∧ t.status.done = s.status.done := by
  rcases hostStep_eq_next h with ⟨-, rfl⟩ | ⟨e, d, sc, rfl, -⟩ | ⟨-, -, sc, rfl⟩ <;> simp

/-- A host step with a read in flight leaves everything alone but the response and the script. -/
theorem hostStep_busy {c : Clock} {s t : State} (h : hostStep c s = .next t)
    (hb : s.status.busy = true) : ∃ r sc, t = { s with rsp := r, script := sc } := by
  rcases hostStep_eq_next h with ⟨-, h'⟩ | ⟨e, d, sc, h', -⟩ | ⟨-, hb', -⟩
  · exact ⟨s.rsp, s.script, h'⟩
  · exact ⟨some ⟨e, d⟩, sc, h'⟩
  · rw [hb] at hb'; cases hb'

/-- A continuation leaves the outside and the Reading registers alone (R107, R224). -/
theorem continueMeas_frame {m : Meas} {r : Nat} {s t : State} (h : continueMeas m r s = .next t) :
    t.cfg = s.cfg ∧ t.usCount = s.usCount ∧ t.clocks = s.clocks ∧ t.drawn = s.drawn ∧
    t.rsp = s.rsp ∧ t.script = s.script ∧ t.hum = s.hum ∧ t.tempc = s.tempc ∧
    t.tempf = s.tempf ∧ t.tempk = s.tempk ∧ t.pinDir = s.pinDir ∧ t.pinOut = s.pinOut ∧
    t.slpReq = s.slpReq ∧ t.slpMs = s.slpMs := by
  rcases continueMeas_eq_next h with ⟨-, -, rfl⟩ | ⟨-, -, rfl⟩ | ⟨-, -, rfl⟩ | ⟨-, -, rfl⟩ |
    ⟨-, rfl⟩ | ⟨-, -, rfl⟩ | ⟨-, -, -, rfl⟩ <;> simp

/-- A step of a measuring phase leaves the outside and the Reading registers alone. -/
theorem measureStep_frame {m : Meas} {c : Clock} {s t : State} (h : measureStep m c s = .next t) :
    t.cfg = s.cfg ∧ t.usCount = s.usCount ∧ t.clocks = s.clocks ∧ t.drawn = s.drawn ∧
    t.rsp = s.rsp ∧ t.script = s.script ∧ t.hum = s.hum ∧ t.tempc = s.tempc ∧
    t.tempf = s.tempf ∧ t.tempk = s.tempk ∧ t.pinDir = s.pinDir ∧ t.pinOut = s.pinOut ∧
    t.slpReq = s.slpReq ∧ t.slpMs = s.slpMs := by
  rcases measureStep_cases m c s with ⟨-, -, e⟩ | ⟨-, -, e⟩ | ⟨-, -, -, e⟩ | ⟨-, -, -, e⟩ | ⟨-, -, e⟩ <;>
    rw [e] at h
  · simp at h; subst h; simp
  · simpa using continueMeas_frame h
  · simp at h; subst h; simp
  · simpa using continueMeas_frame h
  · simpa using continueMeas_frame h

/-- The controller's step leaves the outside alone. -/
theorem controllerStep_frame {c : Clock} {s t : State} (h : controllerStep c s = .next t) :
    t.cfg = s.cfg ∧ t.usCount = s.usCount ∧ t.clocks = s.clocks ∧ t.drawn = s.drawn ∧
    t.rsp = s.rsp ∧ t.script = s.script := by
  rcases controllerStep_cases h with ⟨-, rfl⟩ | ⟨-, rfl⟩ | ⟨-, rfl⟩ | ⟨m, -, hm⟩ | ⟨-, rfl⟩
  · simp
  · simp
  · rcases reqWaitStep_cases c s with ⟨-, e⟩ | ⟨-, e⟩ <;> rw [e] <;> simp
  · have := measureStep_frame hm
    simp_all
  · rcases chkStep_cases s with ⟨-, e⟩ | ⟨-, e⟩ <;> rw [e] <;> simp [acceptFrame]

/-- The controller's turn leaves the outside alone. -/
theorem controllerTurn_frame {c : Clock} {s t : State} (h : controllerTurn c s = .next t) :
    t.cfg = s.cfg ∧ t.usCount = s.usCount ∧ t.clocks = s.clocks ∧ t.drawn = s.drawn ∧
    t.rsp = s.rsp ∧ t.script = s.script := by
  rcases controllerTurn_eq_next h with ⟨-, rfl⟩ | ⟨-, -, h⟩
  · simp
  · exact controllerStep_frame h

end Sys2Proof.Machine
end

