-- ==== Sys2Proof/Laws/Arith.lean ====
section
/-! SUPPORT. The arithmetic of durations (R102, R105), of frame fields (R81, R82) and of the signed
registers (R9). -/

namespace Sys2Proof.Machine

open Sys2Proof

/-! Durations. -/

@[simp] theorem elapsedTime_self (tw t : Nat) : elapsedTime tw t t = 0 := by simp [elapsedTime]

/-- The true count moved on by `d` moves the elapsed time on by `d`, modulo `2^TW`. -/
theorem elapsedTime_add (tw u d t0 : Nat) :
    elapsedTime tw ((u + d) % 2 ^ tw) t0 = (elapsedTime tw (u % 2 ^ tw) t0 + d) % 2 ^ tw := by
  unfold elapsedTime
  have hp : (0 : Int) < ((2 ^ tw : Nat) : Int) := by positivity
  have h1 := Int.emod_nonneg (((u % 2 ^ tw : Nat) : Int) - t0) hp.ne'
  have h2 := Int.emod_nonneg ((((u + d) % 2 ^ tw : Nat) : Int) - t0) hp.ne'
  have low : ∀ n : Nat, ((n % 2 ^ tw : Nat) : Int) ≡ (n : Int) [ZMOD ((2 ^ tw : Nat) : Int)] := by
    intro n; rw [Int.natCast_mod]; exact Int.mod_modEq _ _
  have right := ((Int.mod_modEq (((u % 2 ^ tw : Nat) : Int) - t0) ((2 ^ tw : Nat) : Int)).trans
    ((low u).sub_right (t0 : Int))).add_right (d : Int)
  have both : (((u + d) % 2 ^ tw : Nat) : Int) - t0 ≡
      (((u % 2 ^ tw : Nat) : Int) - t0) % ((2 ^ tw : Nat) : Int) + d [ZMOD ((2 ^ tw : Nat) : Int)] := by
    refine ((low (u + d)).sub_right _).trans (Int.ModEq.trans ?_ right.symm)
    push_cast; ring_nf; rfl
  apply Int.natCast_inj.mp
  rw [Int.toNat_of_nonneg h2, Int.natCast_mod (Int.toNat _ + d) (2 ^ tw), Nat.cast_add,
    Int.toNat_of_nonneg h1]
  exact both

theorem elapsedTime_lt (tw tn t0 : Nat) : elapsedTime tw tn t0 < 2 ^ tw := by
  have hp : (0 : Int) < ((2 ^ tw : Nat) : Int) := by positivity
  have h1 := Int.emod_lt_of_pos ((tn : Int) - t0) hp
  have h2 := Int.emod_nonneg ((tn : Int) - t0) hp.ne'
  unfold elapsedTime; omega

/-! Frame fields. -/

theorem signBit_eq (b : Byte) : b.getLsbD 7 = decide (128 ≤ b.toNat) := by revert b; decide

theorem lowSeven_toNat (b : Byte) : (b.extractLsb' 0 7).toNat = b.toNat % 128 := by simp

theorem maskSeven_toNat (b : Byte) : (b &&& 0x7F#8).toNat = b.toNat % 128 := by revert b; decide

/-- The checksum test is the sum modulo 256 (R161). -/
theorem checksumOk_iff (f : Frame) : checksumOk f = true ↔
    ((f.get 0).toNat + (f.get 1).toNat + (f.get 2).toNat + (f.get 3).toNat) % 256 =
      (f.get 4).toNat := by
  simp only [checksumOk, checksumOf, beq_iff_eq]
  rw [← BitVec.toNat_inj]; simp

/-- The 16-bit humidity of Variants B and C is `MemRead(0, 2)` (R165). -/
theorem humBC_eq_memRead (f : Frame) : humBC f = memRead f 0 2 := by
  simp [humBC, fieldH, memRead]

/-! Signed registers. -/

theorem toInt_ofInt_16 {n : Int} (h : -32768 ≤ n) (h' : n ≤ 32767) : (BitVec.ofInt 16 n).toInt = n := by
  rw [BitVec.toInt_ofInt]; apply Int.bmod_eq_of_le <;> omega

theorem toInt_ofInt_32 {n : Int} (h : -2147483648 ≤ n) (h' : n ≤ 2147483647) :
    (BitVec.ofInt 32 n).toInt = n := by
  rw [BitVec.toInt_ofInt]; apply Int.bmod_eq_of_le <;> omega

end Sys2Proof.Machine
end

