-- ==== Sys2Proof/Laws/PerInstr.lean ====
section
/-! SUPPORT. What holds of every command as syntax, one lemma per command: it is well formed, its code is
its two fields (R71), and it has exactly one row in the opcode table (R72). -/

namespace Sys2Proof.Laws.Encoding

open Sys2Proof

/-- The command is well formed, its code's fields are its group and operation, and the one row of the
table that names it has its code as the pattern. -/
def Statement (i : Instr) : Prop :=
  i.wf = true ∧ (encode i).extractLsb' 4 4 = i.group ∧ (encode i).extractLsb' 0 4 = i.operation ∧
  (opcodeTable.filter (fun row => decide (row.instr = i))).map (·.pattern) = [encode i]

theorem init : Statement .init := by unfold Statement; decide

theorem read : Statement .read := by unfold Statement; decide

theorem getStatus : Statement .getStatus := by unfold Statement; decide

theorem getHum : Statement .getHum := by unfold Statement; decide

theorem getTempc : Statement .getTempc := by unfold Statement; decide

theorem getTempf : Statement .getTempf := by unfold Statement; decide

theorem getTempk : Statement .getTempk := by unfold Statement; decide

end Sys2Proof.Laws.Encoding
end

