-- ==== Sys2Proof/Laws/Run.lean ====
section
/-! SUPPORT. Runs of several steps, one step at a time. -/

namespace Sys2Proof.Machine

open Sys2Proof

@[simp] theorem runSteps_zero (s : State) : runSteps 0 s = .next s := rfl

theorem runSteps_succ (k : Nat) (s : State) : runSteps (k + 1) s = andThen (step s) (runSteps k) := rfl

theorem runSteps_of_step {k : Nat} {s t : State} (h : step s = .next t) :
    runSteps (k + 1) s = runSteps k t := by
  rw [runSteps_succ, h]; rfl

theorem runSteps_add (j k : Nat) (s : State) :
    runSteps (j + k) s = andThen (runSteps j s) (runSteps k) := by
  induction j generalizing s with
  | zero => simp
  | succ j ih =>
    rw [Nat.succ_add, runSteps_succ, runSteps_succ]
    cases step s with
    | next t => simpa using ih t
    | fault f => rfl
    | refused r => rfl

/-- A run that reaches `t` in `j` steps goes on from `t`. -/
theorem runSteps_trans {j k : Nat} {s t : State} (h : runSteps j s = .next t) :
    runSteps (j + k) s = runSteps k t := by
  rw [runSteps_add, h]; rfl

/-- One step of a run of the host's, for any machine of its interface. -/
theorem hostRun_succ (M : Host.Core) (k : Nat) (s : M.State) :
    M.run (k + 1) s = (match M.step s with
      | .next t => M.run k t
      | .fault f => .fault f
      | .refused r => .refused r) := rfl

/-- The model's runs are the host's. -/
theorem run_eq_runSteps (k : Nat) (s : State) : Host.Core.run core k s = runSteps k s := by
  induction k generalizing s with
  | zero => rfl
  | succ k ih =>
    refine (hostRun_succ core k s).trans ?_
    have hs : core.step s = step s := rfl
    rw [hs, runSteps_succ]
    cases step s with
    | next t => exact ih t
    | fault f => rfl
    | refused r => rfl

end Sys2Proof.Machine
end

