-- ==== Sys2Proof/Tests/Slice0.lean ====
section
/-! SUPPORT. The model's own tests: decoding from words written out of R71 and R72, the well-formedness
checks, single steps with the results of spec/95_test_vectors.md, and for every statement with
hypotheses a state that meets them (the theorems whose names begin test_witness_). -/

namespace Sys2Proof.Tests

open Sys2Proof Sys2Proof.Machine

/-! Helpers. -/

/-- The machine with the default parameters, after reset. -/
def bench (v : Variant) : State := State.resetWith { variant := v }

/-- A read in flight in phase `p`, nothing received yet. -/
def inFlight (p : Phase) : State :=
  { bench .B with phase := p, status := ⟨.noReply, true, false⟩ }

/-- The same, while the timer runs since `t0` and the true count is `now`. -/
def polling (m : Meas) (t0 now : Nat) : State :=
  { inFlight (.measure m) with ptRun := true, ptT0 := t0, usCount := now }

/-- A read in `BHI`, `n` bits received, the timer running since time 0. -/
def receiving (n : BitVec 6) (f : Frame) : State :=
  { polling .bhi 0 0 with bitIdx := n, frame := f }

/-- A read in `CHK` with this frame. -/
def checking (v : Variant) (f : Frame) : State :=
  { bench v with phase := .chk, status := ⟨.ok, true, true⟩, bitIdx := 40#6, frame := f,
                 hum := 604#16, tempc := 261#16, tempf := 7898#32, tempk := 29925#32 }

/-- What a step's next state has; nothing else passes. -/
def nextHas (o : Result) (p : State → Bool) : Bool :=
  match o with
  | .next t => p t
  | .fault _ => false
  | .refused _ => false

/-- A clock that only lets the controller step, with this pin level; no time passes. -/
def sample (lv : Level) : Clock := sensorClock lv 0 false

/-- A clock with reset, and a command that must not run. -/
def resetClock : Clock := { commandClock 0x02#8 with rst := true }

/-- The valid frame of L1-1. -/
def frameB : Frame := ⟨0x02#8, 0x5C#8, 0x01#8, 0x05#8, 0x64#8⟩

/-- The valid frame of L1-2. -/
def frameA : Frame := ⟨0x2D#8, 0x00#8, 0x1A#8, 0x85#8, 0xCC#8⟩

/-! Well-formedness: every command is well formed (R71, R83); of the parameters, one that fails each
check, and each is refused at construction. -/

theorem test_wf_commands : allInstrs.all Instr.wf = true := by decide

theorem test_wf_defaults : ({ variant := .A } : Config).wf = true := by decide

theorem test_wf_timeout_too_wide :
    ({ variant := .A, tBlo := 256, tw := 8 } : Config).timeoutsFit = false ∧
    construct 0#2 { variant := .A, tBlo := 256, tw := 8 } = none := by decide

theorem test_wf_threshold_too_wide :
    ({ variant := .A, tBit1 := 2 ^ 32 } : Config).thresholdFits = false ∧
    construct 0#2 { variant := .A, tBit1 := 2 ^ 32 } = none := by decide

theorem test_wf_hold_too_wide :
    ({ variant := .A, tReqMs := 65536 } : Config).holdFits = false ∧
    construct 0#2 { variant := .A, tReqMs := 65536 } = none := by decide

theorem test_wf_variant_three_refused : construct 3#2 { variant := .A } = none := by decide

/-! Decoding, from the bits of R72's table. -/

theorem test_decode_init : decode 0b00000001#8 = .ok .init := by decide

theorem test_decode_read : decode 0b00000010#8 = .ok .read := by decide

theorem test_decode_getStatus : decode 0b00010000#8 = .ok .getStatus := by decide

theorem test_decode_getHum : decode 0b00010001#8 = .ok .getHum := by decide

theorem test_decode_getTempc : decode 0b00010010#8 = .ok .getTempc := by decide

theorem test_decode_getTempf : decode 0b00010011#8 = .ok .getTempf := by decide

theorem test_decode_getTempk : decode 0b00010100#8 = .ok .getTempk := by decide

/-- The edges of the reserved ranges (R74). -/
theorem test_decode_reserved :
    [0x00#8, 0x03#8, 0x0F#8, 0x15#8, 0x20#8, 0xFF#8].all
      (fun b => decide (decode b = .error (.reserved b))) = true := by decide

/-- P6's code bytes: `02 02 03 00 01 10 11 10 11`. -/
theorem test_script_assembles :
    (match parseScript "READ ; 0x02\nREAD\n.byte 0x03\n.byte 0x00\nINIT\nGET_STATUS\nGET_HUM\nWAITDONE\nGET_HUM".toList with
      | .ok ls => ls.map ScriptLine.code
      | .error _ => []) =
    [0x02#8, 0x02#8, 0x03#8, 0x00#8, 0x01#8, 0x10#8, 0x11#8, 0x10#8, 0x11#8] := by decide

/-! Commands (L2-9, R130, R191 to R197). -/

/-- R130's example. -/
theorem test_read_from_reset :
    nextHas (exec .read (bench .B)) (fun t => decide
      (t.rsp = some ⟨false, 0#32⟩ ∧ t.phase = .req ∧ statusWord t.status = 0x7#32)) = true := by decide

theorem test_read_while_busy :
    nextHas (exec .read (receiving 20#6 frameB)) (fun t => decide
      (t.rsp = some ⟨true, 2#32⟩ ∧ t.bitIdx = 20#6 ∧ t.phase = .measure .bhi)) = true := by decide

theorem test_init_while_busy :
    nextHas (exec .init (receiving 20#6 frameB)) (fun t => decide
      (t.rsp = some ⟨false, 0#32⟩ ∧ t.bitIdx = 20#6 ∧ t.status.busy = true)) = true := by decide

/-- A read that failed with Timeout: 0x0000000A (R192). -/
theorem test_getStatus_timeout :
    nextHas (exec .getStatus (raiseFail .timeout (bench .C))) (fun t => decide
      (t.rsp = some ⟨false, 0x0000000A#32⟩)) = true := by decide

theorem test_getHum_zero_extends :
    nextHas (exec .getHum { bench .B with hum := 0xFFFF#16 }) (fun t => decide
      (t.rsp = some ⟨false, 0x0000FFFF#32⟩)) = true := by decide

/-- -265 as 0xFFFFFEF7 (R194). -/
theorem test_getTempc_sign_extends :
    nextHas (exec .getTempc { bench .A with tempc := 0xFEF7#16 }) (fun t => decide
      (t.rsp = some ⟨false, 0xFFFFFEF7#32⟩)) = true := by decide

theorem test_getTempf :
    nextHas (exec .getTempf { bench .A with tempf := 0xFFFFF9DE#32 }) (fun t => decide
      (t.rsp = some ⟨false, 0xFFFFF9DE#32⟩)) = true := by decide

theorem test_getTempk :
    nextHas (exec .getTempk { bench .A with tempk := 0x00006059#32 }) (fun t => decide
      (t.rsp = some ⟨false, 0x00006059#32⟩)) = true := by decide

/-- R197's example: code 0x15. -/
theorem test_reserved_code_rejected :
    nextHas (runCode 0x15#8 (bench .A)) (fun t => decide (t.rsp = some ⟨true, 1#32⟩)) = true := by decide

/-! The pulse timer and the classifier (L2-1 to L2-3). -/

theorem test_pt_start :
    nextHas (controllerStep (sample .high) { inFlight (.measure .hs1) with usCount := 1000 })
      (fun t => decide (t.ptT0 = 1000 ∧ t.ptRun = true ∧ t.phase = .measure .hs1)) = true := by decide

theorem test_pt_start_level_absent :
    nextHas (controllerStep (sample .low) { inFlight (.measure .hs1) with usCount := 1000 })
      (fun t => decide (t.ptT0 = 0 ∧ t.ptRun = false ∧ statusWord t.status = 0xB#32)) = true := by decide

/-- The results of L2-2's polls with `T = 40`, `PT_T0 = 1000`. -/
theorem test_pt_poll_results :
    [(Level.low, 1021), (.high, 1040), (.high, 1041), (.low, 1000), (.low, 1001), (.low, 1100),
      (.high, 1100)].map (fun x => (ptStep .hs1 (sample x.1) (polling .hs1 1000 x.2)).2) =
    [some 21, none, some 0, some 0, some 1, some 100, some 0] := by decide

/-- L2-2's wraps at 32 and 16 bits. -/
theorem test_elapsed_wraps :
    elapsedTime 32 0x00000005 0xFFFFFFF0 = 21 ∧ elapsedTime 16 0x0005 0xFFF0 = 21 := by decide

theorem test_classifier :
    [1, 25, 27, 45, 46, 69, 100, 101, 0xFFFFFFFF].map (classify 45) =
    [false, false, false, false, true, true, true, true, true] := by decide

/-! The sequencer (L2-4). -/

theorem test_req :
    nextHas (controllerStep (sample .high) (inFlight .req)) (fun t => decide
      (t.pinDir = .out ∧ t.pinOut = .low ∧ t.slpMs = 18#16 ∧ t.slpReq = true ∧ t.phase = .reqWait))
    = true := by decide

theorem test_req_wait_released :
    nextHas (controllerStep (sensorClock .low 0 true)
        { inFlight .reqWait with pinDir := .out, slpReq := true })
      (fun t => decide (t.pinDir = .inPu ∧ t.slpReq = false ∧ t.phase = .measure .hs1))
    = true := by decide

/-- `BITIDX = 7`, `FRAME[0] = 0x7F`, `r = 25`. -/
theorem test_bhi_last_bit_of_a_byte :
    nextHas (continueMeas .bhi 25 (receiving 7#6 { Frame.zero with b0 := 0x7F#8 })) (fun t => decide
      (t.frame.b0 = 0xFE#8 ∧ t.bitIdx = 8#6 ∧ t.phase = .measure .blo)) = true := by decide

/-- `BITIDX = 39`, `FRAME[4] = 0x32`, `r = 46`. -/
theorem test_bhi_fortieth_bit :
    nextHas (continueMeas .bhi 46 (receiving 39#6 { Frame.zero with b4 := 0x32#8 })) (fun t => decide
      (t.frame.b4 = 0x65#8 ∧ t.bitIdx = 40#6 ∧ t.phase = .chk)) = true := by decide

/-- `BITIDX = 17`, word 0xC, `r = 0`. -/
theorem test_bhi_stall :
    nextHas (continueMeas .bhi 0 { receiving 17#6 frameB with status := ⟨.ok, true, true⟩ })
      (fun t => decide (statusWord t.status = 0xA#32 ∧ t.doneCode = .timeout ∧ t.bitIdx = 17#6))
    = true := by decide

/-! The checksum and the decoder (L2-5 to L2-8). -/

theorem test_checksums :
    [frameB, ⟨0xFF#8, 0x01#8, 0x00#8, 0x00#8, 0x00#8⟩, ⟨0x80#8, 0x80#8, 0x80#8, 0x80#8, 0x00#8⟩,
      ⟨0x2D#8, 0x07#8, 0x1A#8, 0x85#8, 0xCC#8⟩].map checksumOk = [true, true, true, false] := by decide

/-- L1-1: humidity 604, 26.1 degrees, 7898 and 29925. -/
theorem test_chk_variant_b :
    nextHas (controllerStep (sample .high) (checking .B frameB)) (fun t => decide
      (t.hum = 604#16 ∧ t.tempc = 261#16 ∧ t.tempf = 7898#32 ∧ t.tempk = 29925#32 ∧
        statusWord t.status = 0x8#32 ∧ t.doneStb = true)) = true := by decide

/-- L1-2: the asymmetric sign rule gives -265. -/
theorem test_decode_variant_a :
    decodeFrame .A frameA = (450, -265) ∧
    decodeFrame .A ⟨0x00#8, 0x00#8, 0x00#8, 0xFF#8, 0xFF#8⟩ = (0, 117) ∧
    decodeFrame .A ⟨0x00#8, 0x00#8, 0x00#8, 0x80#8, 0x80#8⟩ = (0, -10) := by decide

/-- R165, R166: the largest humidity, the least temperature, and a negative zero. -/
theorem test_decode_variants_bc :
    decodeFrame .C ⟨0xFF#8, 0xFF#8, 0xFF#8, 0xFF#8, 0xFC#8⟩ = (65535, -32767) ∧
    decodeFrame .B ⟨0x00#8, 0x00#8, 0x80#8, 0x00#8, 0x80#8⟩ = (0, 0) := by decide

/-- L2-10: a mismatch keeps the Reading. -/
theorem test_chk_mismatch :
    nextHas (controllerStep (sample .high) (checking .A ⟨0x00#8, 0x00#8, 0x00#8, 0x00#8, 0x01#8⟩))
      (fun t => decide (statusWord t.status = 0x9#32 ∧ t.hum = 604#16 ∧ t.tempk = 29925#32 ∧
        t.doneCode = .checksumMismatch)) = true := by decide

/-! A clock (L2-9's same-clock vectors, L2-11). -/

theorem test_same_clock_read_rejected :
    nextHas (step { checking .B frameB with
        clocks := [{ sensorClock .high 0 false with host := .give 0x02#8 }] })
      (fun t => decide (t.rsp = some ⟨true, 2#32⟩ ∧ t.phase = .idle ∧ t.doneStb = true))
    = true := by decide

theorem test_reset_during_a_read :
    nextHas (step { receiving 20#6 frameB with clocks := [resetClock], hum := 604#16 })
      (fun t => decide (t.phase = .idle ∧ t.bitIdx = 0#6 ∧ t.hum = 0#16 ∧ t.rsp = none ∧
        statusWord t.status = 0x3#32 ∧ t.doneStb = false)) = true := by decide

/-! Witnesses: states and operands that meet the hypotheses of the statements. -/

theorem test_witness_group_nibble :
    (0x2A#8).extractLsb' 4 4 ≠ 0x0#4 ∧ (0x2A#8).extractLsb' 4 4 ≠ 0x1#4 := by decide

/-- Each clause of the reserved codes, at its edges. -/
theorem test_witness_reserved_codes :
    (0x03 ≤ (0x03#8).toNat ∧ (0x03#8).toNat ≤ 0x0F) ∧ (0x03 ≤ (0x0F#8).toNat ∧ (0x0F#8).toNat ≤ 0x0F) ∧
    0x15 ≤ (0x15#8).toNat ∧ 0x15 ≤ (0xFF#8).toNat := by decide

/-- Digits at the ends of both tables, and a text without a comment. -/
theorem test_witness_script_digits :
    [('0', 0), ('F', 15)].all (fun d => decide (d ∈ "0123456789ABCDEF".toList.zipIdx)) = true ∧
    ('f', 15) ∈ "0123456789abcdef".toList.zipIdx ∧ ';' ∉ "GET_HUM ".toList := by decide

/-- No digit is a neighbour of the digits in the character table. -/
theorem test_hexDigit_edges :
    ['/', '0', '9', ':', '@', 'A', 'F', 'G', '`', 'a', 'f', 'g'].map hexDigit =
    [none, some 0, some 9, none, none, some 10, some 15, none, none, some 10, some 15, none] := by decide

/-- A clock that gives `READ` and one that gives a reserved code. -/
theorem test_witness_decoded_command :
    (commandClock 0x02#8).rst = false ∧ portCommand (commandClock 0x02#8) (bench .A) = some 0x02#8 ∧
    decode 0x02#8 = .ok .read ∧ portCommand (commandClock 0x15#8) (bench .A) = some 0x15#8 ∧
    decode 0x15#8 = .error (.reserved 0x15#8) := by decide

theorem test_witness_fetch_word : decodeTableWord 8 0x14 = some .getTempk := by decide

theorem test_witness_no_command :
    (sample .high).rst = false ∧ portCommand (sample .high) (inFlight .req) = none := by decide

theorem test_witness_reset_clock :
    ({ inFlight .req with clocks := [resetClock] } : State).clocks = [resetClock] ∧
    resetClock.rst = true := by decide

/-- Both ways of giving no command in `IDLE`. -/
theorem test_witness_idle_clock :
    (bench .A).phase = .idle ∧ (sample .high).host = .quiet ∧
    ({ sample .high with host := .nextLine } : Clock).host = .nextLine ∧ (bench .A).script = [] := by
  decide

/-- Parameters that fit, parameters that do not, and a step that answers. -/
theorem test_witness_construct :
    ({ variant := .C, tHs1 := 2 ^ 32 } : Config).wf = false ∧
    ({ variant := .C } : Config).wf = true ∧
    nextHas (step { inFlight .req with clocks := [sample .high] }) (fun _ => true) = true := by decide

/-- `READ` with no read in flight, and with one. -/
theorem test_witness_read : (bench .B).status.busy = false ∧ (inFlight .req).status.busy = true := by
  decide

theorem test_witness_no_side_effect : (0x10#8) ≠ 0x02#8 ∧ (inFlight .chk).status.busy = true := by decide

/-- Two states that differ in everything the host cannot see. -/
theorem test_witness_hidden_state :
    (receiving 20#6 frameB).status = (receiving 7#6 frameA).status ∧
    (receiving 20#6 frameB).hum = (receiving 7#6 frameA).hum ∧
    nextHas (runCode 0x10#8 (receiving 20#6 frameB)) (fun _ => true) = true ∧
    nextHas (runCode 0x10#8 (receiving 7#6 frameA)) (fun _ => true) = true := by decide

/-- A `WAITDONE` line while a read is in flight, and while none is. -/
theorem test_witness_wait_done :
    let c : Clock := { sample .high with host := .nextLine, ctl := false }
    c.rst = false ∧ c.host = .nextLine ∧ c.ctl = false ∧
    ({ inFlight .req with clocks := [c], script := [.waitDone] } : State).status.busy = true ∧
    ({ bench .A with clocks := [c], script := [.waitDone] } : State).status.busy = false := by decide

/-- A line of each kind in a clock in which the controller moves too, and what is left of the script. -/
theorem test_witness_script_lines :
    let c : Clock := { sample .high with host := .nextLine }
    c.rst = false ∧
    [ScriptLine.command .init, .rawByte 0x15#8, .waitDone].all (fun line =>
      nextHas (step { inFlight .req with clocks := [c], script := [line, .command .getHum] })
        (fun t => decide (t.phase = .reqWait ∧
          t.script.length = if line = .waitDone then 2 else 1))) = true := by decide

theorem test_witness_request_phases :
    (inFlight .req).phase = .req ∧ (inFlight .reqWait).phase = .reqWait := by decide

theorem test_witness_measurement_start :
    (inFlight (.measure .blo)).phase = .measure .blo ∧ (inFlight (.measure .blo)).ptRun = false := by
  decide

theorem test_witness_measurement_poll :
    (polling .hs1 1000 1040).phase = .measure .hs1 ∧ (polling .hs1 1000 1040).ptRun = true ∧
    ((40 : Nat) : Int) = (((polling .hs1 1000 1040).usCount % 2 ^ (polling .hs1 1000 1040).cfg.tw : Nat) -
      ((polling .hs1 1000 1040).ptT0 : Int)) % ((2 ^ (polling .hs1 1000 1040).cfg.tw : Nat) : Int) := by
  decide

theorem test_witness_timer_goes_on :
    ptStep .hs1 (sample .high) (polling .hs1 1000 1040) = (polling .hs1 1000 1040, none) := by decide

theorem test_witness_timer_ends :
    ptStep .hs1 (sample .low) (polling .hs1 1000 1021) =
      (stopTimer (polling .hs1 1000 1021), some 21) := by decide

theorem test_witness_wrap : 0xFFFFFFF0 ≤ 0x100000005 ∧ 0x100000005 - 0xFFFFFFF0 < 2 ^ 32 := by decide

/-- At the edge `e = T` a poll 1 µs later ends with `T + 1`. -/
theorem test_witness_dense_poll :
    elapsedTime 32 ((polling .hs1 1000 1040).usCount % 2 ^ 32) (polling .hs1 1000 1040).ptT0 ≤
      timeoutOf (polling .hs1 1000 1040).cfg .hs1 ∧
    (sensorClock .low 1 false).elapsed ≤ 1 ∧
    (ptStep .hs1 (sensorClock .low 1 false)
      (beginClock (sensorClock .low 1 false) (polling .hs1 1000 1040))).2 = some 41 := by decide

/-- The three causes of a zero result. -/
theorem test_witness_no_signal :
    (ptStep .hs1 (sample .low) (inFlight (.measure .hs1))).2 = some 0 ∧
    (ptStep .hs1 (sample .high) (polling .hs1 1000 1041)).2 = some 0 ∧
    (ptStep .hs1 (sample .low) (polling .hs1 1000 1000)).2 = some 0 := by decide

theorem test_witness_handshake :
    (Meas.hs3, Meas.blo) ∈ [(Meas.hs1, Meas.hs2), (Meas.hs2, Meas.hs3), (Meas.hs3, Meas.blo)] := by
  decide

/-- The edges of the bit count: 0, 39 and the states no run reaches from 40 on. -/
theorem test_witness_bits :
    (receiving 0#6 frameB).bitIdx.toNat < 40 ∧ (receiving 39#6 frameB).bitIdx.toNat < 40 ∧
    40 ≤ (receiving 40#6 frameB).bitIdx.toNat := by decide

/-- A frame that passes the checksum and one that does not. -/
theorem test_witness_chk :
    (checking .A frameA).phase = .chk ∧ checksumOk frameA = true ∧
    checksumOk { frameA with b4 := 0xCD#8 } = false := by decide

theorem test_witness_decoded_values : decodeFrame .B frameB = (604, 261) ∧ Variant.B ∈ [Variant.B, .C] := by
  decide

/-- A read in the handshake, no bit received, meets the invariant. -/
theorem test_witness_inv_handshake : (inFlight (.measure .hs1)).Inv := by
  constructor <;> simp [inFlight, bench, State.resetWith, Phase.isMeasuring, bitsAgree, frameHolds,
    freshReading]
  intro j hj
  have : j = 0 ∨ j = 1 ∨ j = 2 ∨ j = 3 ∨ j = 4 := by omega
  rcases this with rfl | rfl | rfl | rfl | rfl <;> decide

/-- A read in `CHK` after an earlier Ok read, all bits received, meets the invariant. -/
theorem test_witness_inv_checking : (checking .B frameB).Inv := by
  constructor <;> simp [checking, bench, State.resetWith, Phase.isMeasuring, bitsAgree, frameHolds,
    freshReading, derivedReading, frameB]
  intro j hj
  have : j = 0 ∨ j = 1 ∨ j = 2 ∨ j = 3 ∨ j = 4 := by omega
  rcases this with rfl | rfl | rfl | rfl | rfl <;> decide

/-- A read that fails in the handshake: the pin low at the `HS1` start. -/
theorem test_witness_no_reply :
    (inFlight (.measure .hs1)).phase = .measure .hs1 ∧ (inFlight (.measure .hs1)).ptRun = false ∧
    (sample .low).pinIn = .low ∧ (inFlight (.measure .hs1)).doneStb = false ∧
    nextHas (controllerStep (sample .low) (inFlight (.measure .hs1)))
      (fun t => decide (t.doneStb = true ∧ t.doneCode = .noReply)) = true := by decide

/-- A step without reset that completes a read (with the invariant: test_witness_inv_checking), and one
that does not (test_witness_inv_handshake). -/
theorem test_witness_completing_step :
    ({ checking .B frameB with clocks := [sample .high] } : State).nextClock.rst = false ∧
    nextHas (step { checking .B frameB with clocks := [sample .high] }) (fun t => t.doneStb) = true ∧
    nextHas (step { inFlight (.measure .hs1) with clocks := [sample .high] }) (fun t => !t.doneStb)
      = true := by decide

theorem test_witness_phases :
    nextHas (controllerStep (sample .high) (inFlight (.measure .blo)))
      (fun t => decide (t.phase = .measure .bhi)) = true := by decide

/-- A read about to drive the pin, and one that drives it, meet the invariant. -/
theorem test_witness_inv_request :
    (inFlight .req).Inv ∧ ({ inFlight .reqWait with pinDir := .out, slpReq := true } : State).Inv := by
  constructor <;> constructor <;> simp [inFlight, bench, State.resetWith, Phase.isMeasuring, bitsAgree,
    frameHolds, freshReading] <;> decide

/-- The invariant in `IDLE`, after a read that failed. -/
theorem test_witness_inv_idle : (raiseFail .noReply (inFlight (.measure .hs1))).Inv := by
  constructor <;> simp [raiseFail, goto, emit, stopTimer, setStatus, inFlight, bench, State.resetWith,
    Phase.isMeasuring, bitsAgree, frameHolds, freshReading]
  decide

/-- The steps that move the pin, from `REQ`, from `IDLE` with a `READ`, and the release; and a waiting
step, which does not. -/
theorem test_witness_pin :
    nextHas (step { inFlight .req with clocks := [sample .high] }) (fun t => decide (t.pinDir = .out))
      = true ∧
    nextHas (step { raiseFail .noReply (inFlight (.measure .hs1)) with
        clocks := [{ sample .high with host := .give 0x02#8 }] })
      (fun t => decide (t.phase = .reqWait ∧ t.pinDir = .out)) = true ∧
    nextHas (step { inFlight .reqWait with
        pinDir := .out, slpReq := true, clocks := [sensorClock .low 0 true] })
      (fun t => decide (t.phase = .measure .hs1 ∧ t.pinDir = .inPu)) = true ∧
    nextHas (step { inFlight .reqWait with
        pinDir := .out, slpReq := true, clocks := [sensorClock .low 0 false] })
      (fun t => decide (t.phase = .reqWait ∧ t.pinDir = .out)) = true := by decide

/-- The stop of a state no run reaches. -/
theorem test_witness_stop :
    (match step { receiving 40#6 frameB with clocks := [sensorClock .low 46 false] } with
      | .fault f => decide (f = .noFrameByte 5)
      | .next _ => false
      | .refused _ => false) = true ∧
    (receiving 40#6 frameB).status.busy = true := by decide

theorem test_witness_time :
    nextHas (step { bench .A with clocks := [sensorClock .high 7 false] })
      (fun t => decide (t.usCount = 7)) = true := by decide

/-- A command in the clock of a controller step. -/
theorem test_witness_same_clock :
    ({ sample .high with host := .give 0x11#8 } : Clock).rst = false ∧
    nextHas (step { checking .B frameB with clocks := [{ sample .high with host := .give 0x11#8 }] })
      (fun t => decide (t.rsp = some ⟨false, 604#32⟩)) = true := by decide

theorem test_witness_busy_host :
    (inFlight (.measure .hs1)).status.busy = true ∧ (sample .high).rst = false ∧
    nextHas (step { inFlight (.measure .hs1) with clocks := [sample .high] }) (fun _ => true) = true := by
  decide

/-- Stuck lines: at each of the four places a line can be stuck. -/
theorem test_witness_stuck_lines :
    nextHas (controllerStep (sample .low) (polling .blo 0 51)) (fun t => decide (t.phase = .measure .bhi))
      = true ∧
    (inFlight (.measure .bhi)).ptRun = false ∧ (sample .low).pinIn = .low ∧
    nextHas (controllerStep (sample .high) (polling .hs3 0 81)) (fun t => decide (t.doneCode = .noReply))
      = true ∧
    nextHas (controllerStep (sample .high) (polling .bhi 0 101)) (fun t => decide (t.doneCode = .timeout))
      = true := by decide

theorem test_witness_forty_bits :
    (List.replicate 40 true).length = 40 ∧ (bench .A).bitIdx = 0#6 ∧
    [0, 1, 2, 3, 4].map (bench .A).frame.get = List.replicate 5 0x00#8 := by decide

/-! The densely polled read: its hypotheses together. -/

/-- A clock in which everybody moves. -/
def busyClock : Clock := { sensorClock .high 1 true with host := .give 0x10#8 }

theorem test_witness_dense_read :
    let s : State := { inFlight (.measure .hs1) with clocks := List.replicate 6369 busyClock }
    s.Inv ∧ s.status.busy = true ∧ (∀ m, timeoutOf s.cfg m + 1 < 2 ^ s.cfg.tw) ∧
    readBound s.cfg ≤ s.clocks.length ∧ ∀ c ∈ s.clocks, c.isDense = true := by
  obtain ⟨h1, h2, h3, h4, h5, h6, h7, h8, h9, h10, h11, h12⟩ := test_witness_inv_handshake
  refine ⟨⟨h1, h2, h3, h4, h5, h6, h7, h8, h9, h10, h11, h12⟩, rfl, ?_, ?_, ?_⟩
  · intro m; cases m <;> decide
  · rw [List.length_replicate]; decide
  · intro c hc; rw [List.eq_of_mem_replicate hc]; decide

/-! The waveform of P1: its hypotheses together, and the frame it spells. -/

/-- The bits of `frameB`, most significant first, as L2-5 writes them. -/
def bitsB : List Nat :=
  [0, 0, 0, 0, 0, 0, 1, 0] ++ [0, 1, 0, 1, 1, 1, 0, 0] ++ [0, 0, 0, 0, 0, 0, 0, 1] ++
  [0, 0, 0, 0, 0, 1, 0, 1] ++ [0, 1, 1, 0, 0, 1, 0, 0]

/-- P1's measured widths: 19, 79, 79, then 49 for every marker and 25 or 69 for every bit. -/
def waveB : Waveform where
  waits := [17999]
  turnaround := ⟨1, [18], 1⟩
  hold := ⟨1, [39, 39], 1⟩
  presence := ⟨1, [78], 1⟩
  bits := bitsB.map (fun b => ⟨⟨1, [48], 1⟩, if b = 1 then ⟨1, [68], 1⟩ else ⟨1, [24], 1⟩⟩)

theorem test_witness_waveform :
    waveB.carriesFrame (bench .B).cfg = true ∧ (bench .B).status.busy = false ∧
    ({ bench .B with clocks := waveB.clocks } : State).clocks = waveB.clocks ++ [] :=
  ⟨by decide, rfl, (List.append_nil _).symm⟩

theorem test_waveform_spells_the_frame :
    [0, 1, 2, 3, 4].map (byteOfBits (waveB.received (bench .B).cfg)) = [0x02, 0x5C, 0x01, 0x05, 0x64] := by
  decide

end Sys2Proof.Tests
end

