-- ==== Sys2Proof/Proofs/Scope.lean ====
section
/-! PROOF. Construction (R6, log entry 9) and the parameters every step keeps. -/

namespace Sys2Proof.Machine

open Sys2Proof

/-! Construction. -/

/-- A code without a variant builds nothing (R6). -/
theorem construct_of_no_variant {code : BitVec 2} (h : variantOfCode code = none) (p : Config) :
    construct code p = none := by
  simp [construct, h]

/-- A code with a variant builds its machine exactly when the parameters fit (log entry 9); whether they
fit does not depend on the variant. -/
theorem construct_of_variant {code : BitVec 2} {v : Variant} (h : variantOfCode code = some v)
    (p : Config) :
    construct code p = if p.wf then some (State.resetWith { p with variant := v }) else none := by
  rw [construct, h]; rfl

theorem construct_of_wf {code : BitVec 2} {v : Variant} (h : variantOfCode code = some v)
    {p : Config} (hp : p.wf = true) :
    construct code p = some (State.resetWith { p with variant := v }) := by
  rw [construct_of_variant h, if_pos hp]

theorem construct_of_not_wf (code : BitVec 2) {p : Config} (hp : p.wf = false) :
    construct code p = none := by
  cases h : variantOfCode code with
  | none => exact construct_of_no_variant h p
  | some v => simp [construct_of_variant h, hp]

/-! The step. -/

/-- No step changes a construction parameter (R6): a reset keeps them, and so do the host's step and the
controller's turn. -/
theorem step_keeps_cfg {s t : State} (h : step s = .next t) : t.cfg = s.cfg := by
  rcases step_eq_next h with ⟨-, rfl⟩ | ⟨-, u, hhost, hctl⟩
  · simp
  · obtain ⟨hctlCfg, -⟩ := controllerTurn_frame hctl
    obtain ⟨hhostCfg, -⟩ := hostStep_frame hhost
    calc t.cfg = u.cfg := hctlCfg
      _ = (beginClock s.nextClock (takeClock s)).cfg := hhostCfg
      _ = s.cfg := by simp

/-- Settles O12: construction by the cases of `variantOfCode`, and the frame of a step. -/
theorem variantIsFixedAtConstruction : Obligations.VariantIsFixedAtConstruction := by
  refine ⟨construct_of_no_variant rfl, fun code p => construct_of_not_wf code, fun p hp => ?_,
    fun s t => step_keeps_cfg⟩
  exact ⟨construct_of_wf rfl hp, construct_of_wf rfl hp, construct_of_wf rfl hp⟩

end Sys2Proof.Machine
end

section
/-! PROOF. The invariant of the machine: it holds at reset and every step keeps it. -/

namespace Sys2Proof.Machine

open Sys2Proof

/-! What the outside holds is not SWPC's: the invariant does not speak of it. -/

/-- The invariant does not depend on the script, the inputs to come or the true count. -/
theorem State.Inv.with_outside {s : State} (hi : s.Inv) (script : List ScriptLine)
    (clocks : List Clock) (usCount drawn : Nat) :
    State.Inv { s with script := script, clocks := clocks, usCount := usCount, drawn := drawn } :=
  { hi with }

theorem takeClock_keeps_inv {s : State} (hi : s.Inv) : (takeClock s).Inv := by
  unfold takeClock
  split
  · exact hi.with_outside s.script _ s.usCount s.drawn
  · exact hi.with_outside s.script s.clocks s.usCount _

/-- The start of a clock only withdraws the completion event and the response. -/
theorem beginClock_keeps_inv {s : State} (hi : s.Inv) (c : Clock) : (beginClock c s).Inv :=
  { hi with
    strobe := by simp
    reason := by simp }

/-! Reset. -/

/-- No byte of the zero frame holds a bit. -/
theorem frameHolds_zero (n : Nat) : frameHolds Frame.zero n := by
  intro j _; simp

theorem resetWith_inv (c : Config) : (State.resetWith c).Inv where
  busy := by simp [State.resetWith]
  timer := by simp [State.resetWith]
  start := Nat.two_pow_pos _
  bits := by simp [State.resetWith, bitsAgree]
  frame := frameHolds_zero 0
  low := rfl
  driven := by simp [State.resetWith]
  sleep := by simp [State.resetWith]
  strobe := by simp [State.resetWith]
  fresh := by simp [State.resetWith, freshReading]
  reading := .inl ⟨rfl, rfl, rfl, rfl⟩
  reason := by simp [State.resetWith]

/-- Settles O45. -/
theorem invariantHoldsAfterReset : Obligations.InvariantHoldsAfterReset := resetWith_inv

theorem resetStep_inv (s : State) : (resetStep s).Inv :=
  (resetWith_inv s.cfg).with_outside s.script s.clocks s.usCount s.drawn

/-! The host's step. -/

/-- A response whose reason is one of R75's keeps the invariant. -/
theorem respond_keeps_inv {s : State} (hi : s.Inv) {e : Bool} {d : Word}
    (hd : e = true → d = rejReserved ∨ d = rejBusy) : (respond e d s).Inv :=
  { hi with reason := by rintro r ⟨rfl⟩; exact hd }

/-- An accepted `READ` keeps the invariant (R130): it comes from `IDLE`, where the pin is released. -/
theorem startRead_keeps_inv {s : State} (hi : s.Inv) (hbusy : s.status.busy = false)
    (hstb : s.doneStb = false) : (startRead s).Inv := by
  have hidle : s.phase = .idle := by
    by_contra hp
    simp [hi.busy.2 hp] at hbusy
  exact
    { hi with
      busy := by simp
      timer := by simp
      bits := by simp [bitsAgree]
      frame := frameHolds_zero 0
      driven := by simp [hi.driven, hidle]
      sleep := by simp [hi.sleep, hidle]
      strobe := by simp [hstb] }

theorem hostStep_keeps_inv {c : Clock} {s t : State} (h : hostStep c s = .next t) (hi : s.Inv)
    (hstb : s.doneStb = false) : t.Inv := by
  rcases hostStep_eq_next h with ⟨-, rfl⟩ | ⟨e, d, sc, rfl, hd⟩ | ⟨-, hbusy, sc, rfl⟩
  · exact hi
  · exact (respond_keeps_inv hi hd).with_outside sc s.clocks s.usCount s.drawn
  · exact (respond_keeps_inv (startRead_keeps_inv hi hbusy hstb) (by simp)).with_outside
      sc s.clocks s.usCount s.drawn

/-! The request (R131, R132). -/

theorem State.Inv.doneStb_of_in_flight {s : State} (hi : s.Inv) (hp : s.phase ≠ .idle) :
    s.doneStb = false := by
  by_contra hstb
  obtain ⟨hidle, -⟩ := hi.strobe (by simpa using hstb)
  exact hp hidle

theorem State.Inv.ptRun_of_not_measuring {s : State} (hi : s.Inv)
    (hp : s.phase.isMeasuring = false) : s.ptRun = false := by
  by_contra hrun
  simp [hi.timer (by simpa using hrun)] at hp

theorem reqStep_keeps_inv {s : State} (hi : s.Inv) (hp : s.phase = .req) : (reqStep s).Inv :=
  { hi with
    busy := by simp [hi.busy, hp]
    timer := by simp [hi.ptRun_of_not_measuring, hp, Phase.isMeasuring]
    bits := by simpa [hp, bitsAgree] using hi.bits
    low := rfl
    driven := by simp
    sleep := by simp
    strobe := by simp [hi.doneStb_of_in_flight, hp] }

theorem reqWaitStep_keeps_inv {s : State} (hi : s.Inv) (hp : s.phase = .reqWait) (c : Clock) :
    (reqWaitStep c s).Inv := by
  rcases reqWaitStep_cases c s with ⟨-, e⟩ | ⟨-, e⟩ <;> rw [e]
  · exact
      { hi with
        busy := by simp [hi.busy, hp]
        timer := by simp
        bits := by simpa [hp, bitsAgree] using hi.bits
        low := rfl
        driven := by simp
        sleep := by simp
        strobe := by simp [hi.doneStb_of_in_flight, hp] }
  · exact hi

/-! The timer and failure entry. -/

theorem stopTimer_keeps_inv {s : State} (hi : s.Inv) : (stopTimer s).Inv :=
  { hi with timer := by simp }

theorem startTimer_keeps_inv {s : State} (hi : s.Inv) (hp : s.phase.isMeasuring = true) :
    (startTimer (sampleTime s) s).Inv :=
  { hi with
    timer := fun _ => hp
    start := Nat.mod_lt _ (Nat.two_pow_pos _) }

/-- In every phase at most 40 bits have been received. -/
theorem bitsAgree_le {p : Phase} {n : Nat} (h : bitsAgree p n) : n ≤ 40 := by
  have hbits := nBits_eq
  unfold bitsAgree at h
  split at h <;> omega

/-- Failure entry keeps the invariant wherever the pin is released (R224). -/
theorem raiseFail_keeps_inv {s : State} (hi : s.Inv) (hp : s.phase ≠ .reqWait) (k : StatusCode) :
    (raiseFail k s).Inv :=
  { hi with
    busy := by simp
    timer := by simp
    bits := bitsAgree_le hi.bits
    driven := by simp [hi.driven, hp]
    sleep := by simp [hi.sleep, hp]
    strobe := by simp
    fresh := by simp }

/-! The measurements (R133 to R137). -/

/-- A measurement that has ended leads on, to another measuring phase or to `CHK`: the invariant asks
only that the bit count fits the new phase and that the frame holds the bits counted. -/
theorem goto_from_measure_keeps_inv {s : State} {m : Meas} {p : Phase} {f : Frame} {b : BitVec 6}
    (hi : s.Inv) (hm : s.phase = .measure m) (hrun : s.ptRun = false) (hidle : p ≠ .idle)
    (hwait : p ≠ .reqWait) (hbits : bitsAgree p b.toNat) (hframe : frameHolds f b.toNat) :
    (goto p { s with frame := f, bitIdx := b }).Inv :=
  { hi with
    busy := by simp [hi.busy, hm, hidle]
    timer := by simp [hrun]
    bits := hbits
    frame := hframe
    driven := by simp [hi.driven, hm, hwait]
    sleep := by simp [hi.sleep, hm, hwait]
    strobe := by simp [hi.doneStb_of_in_flight, hm] }

/-- A bit shifted into a byte that holds `k < 8` bits makes it hold `k + 1`: "the `mod 256` never
discards a bit" (R137). -/
theorem shiftedIn_lt {v : Byte} {k : Nat} (h : v.toNat < 2 ^ k) (bit : Bool) :
    shiftedIn v bit < 2 ^ (k + 1) := by
  have hbit := bit.toNat_le
  rw [Nat.pow_succ, shiftedIn]
  omega

/-- The frame assembler keeps `frameHolds`: the byte it writes gains one bit, and the others are bounded
as before. -/
theorem frameHolds_shiftedIn {f : Frame} {n : Nat} (h : frameHolds f n) (hn : n < 40) (bit : Bool) :
    frameHolds (f.set (n / 8) (BitVec.ofNat 8 (shiftedIn (f.get (n / 8)) bit))) (n + 1) := by
  have hbyte : n / 8 < 5 := by omega
  intro j hj
  rw [nBytes_eq] at hj
  by_cases hjn : j = n / 8
  · subst hjn
    have hold := h (n / 8) hj
    rw [show min 8 (n - 8 * (n / 8)) = n % 8 by omega] at hold
    rw [Frame.get_set_same f _ hbyte, BitVec.toNat_ofNat,
      show min 8 (n + 1 - 8 * (n / 8)) = n % 8 + 1 by omega]
    exact (Nat.mod_le _ _).trans_lt (shiftedIn_lt hold bit)
  · rw [Frame.get_set_other f _ hbyte hj hjn]
    exact (h j hj).trans_le (Nat.pow_le_pow_right (by decide) (by omega))

/-- The count of R137 does not wrap while bits arrive. -/
theorem bitIdx_succ_toNat {b : BitVec 6} (h : b.toNat < 40) : (b + 1#6).toNat = b.toNat + 1 := by
  rw [BitVec.toNat_add]
  exact Nat.mod_eq_of_lt (by simp; omega)

/-- What a stored bit writes, in one update (R137). -/
theorem countBit_storeByte (j : Nat) (v : Byte) (s : State) :
    countBit (storeByte j v s) = goto (if s.bitIdx.toNat + 1 = 40 then .chk else .measure .blo)
      { s with frame := s.frame.set j v, bitIdx := s.bitIdx + 1#6 } := rfl

/-- A received bit keeps the invariant (R137). -/
theorem storedBit_keeps_inv {s : State} (hi : s.Inv) (hm : s.phase = .measure .bhi)
    (hrun : s.ptRun = false) (hn : s.bitIdx.toNat < 40) (bit : Bool) :
    (countBit (storeByte (s.bitIdx.toNat / 8)
      (BitVec.ofNat 8 (shiftedIn (s.frame.get (s.bitIdx.toNat / 8)) bit)) s)).Inv := by
  rw [countBit_storeByte]
  refine goto_from_measure_keeps_inv hi hm hrun ?_ ?_ ?_ ?_
  · split <;> simp
  · split <;> simp
  · rw [bitIdx_succ_toNat hn]
    split
    · assumption
    · show s.bitIdx.toNat + 1 < 40
      omega
  · rw [bitIdx_succ_toNat hn]
    exact frameHolds_shiftedIn hi.frame hn bit

theorem continueMeas_keeps_inv {m : Meas} {r : Nat} {s t : State} (h : continueMeas m r s = .next t)
    (hi : s.Inv) (hm : s.phase = .measure m) (hrun : s.ptRun = false) : t.Inv := by
  have leads (m' : Meas) (hb : bitsAgree (.measure m') s.bitIdx.toNat) :
      (goto (.measure m') s).Inv :=
    goto_from_measure_keeps_inv hi hm hrun (by simp) (by simp) hb hi.frame
  have hbits : bitsAgree (.measure m) s.bitIdx.toNat := hm ▸ hi.bits
  rcases continueMeas_eq_next h with ⟨-, -, rfl⟩ | ⟨-, rfl, rfl⟩ | ⟨-, rfl, rfl⟩ | ⟨-, rfl, rfl⟩ |
    ⟨rfl, rfl⟩ | ⟨-, -, rfl⟩ | ⟨-, rfl, hn, rfl⟩
  · exact raiseFail_keeps_inv hi (by simp [hm]) _
  · exact leads .hs2 hbits
  · exact leads .hs3 hbits
  · have hzero : s.bitIdx.toNat = 0 := hbits
    exact leads .blo (by simp [bitsAgree, hzero])
  · exact leads .bhi hbits
  · exact raiseFail_keeps_inv hi (by simp [hm]) _
  · exact storedBit_keeps_inv hi hm hrun hn _

theorem measureStep_keeps_inv {m : Meas} {c : Clock} {s t : State} (h : measureStep m c s = .next t)
    (hi : s.Inv) (hm : s.phase = .measure m) : t.Inv := by
  rcases measureStep_cases m c s with ⟨-, -, e⟩ | ⟨hrun, -, e⟩ | ⟨-, -, -, e⟩ | ⟨-, -, -, e⟩ |
    ⟨-, -, e⟩ <;> rw [e] at h
  · cases h; exact startTimer_keeps_inv hi (by rw [hm]; rfl)
  · exact continueMeas_keeps_inv h hi hm hrun
  · cases h; exact hi
  · exact continueMeas_keeps_inv h (stopTimer_keeps_inv hi) hm rfl
  · exact continueMeas_keeps_inv h (stopTimer_keeps_inv hi) hm rfl

/-! The commit (R160, R170). -/

/-- Every decoded temperature fits `TEMPC` (R169). -/
theorem decodeFrame_temp_bounds (v : Variant) (f : Frame) :
    -32768 ≤ (decodeFrame v f).2 ∧ (decodeFrame v f).2 ≤ 32767 := by
  have hI : fieldI f < 256 := (f.get 2).isLt
  have hT : fieldT f < 128 := ((f.get 3).extractLsb' 0 7).isLt
  have hM : fieldM f < 32768 := by
    have h2 := maskSeven_toNat (f.get 2)
    have h3 := (f.get 3).isLt
    unfold fieldM
    omega
  cases v
  case A => simp only [decodeFrame, tempA]; split <;> omega
  all_goals simp only [decodeFrame, tempBC]; split <;> omega

/-- The registers written for a temperature that fits are exact images of it (R167, R168). -/
theorem derivedReading_writeReading {n : Int} (hlo : -32768 ≤ n) (hhi : n ≤ 32767) (h : Nat)
    (s : State) : derivedReading (writeReading h n (fahr n) (kelv n) s) := by
  have hn := toInt_ofInt_16 hlo hhi
  have hf : (BitVec.ofInt 32 (fahr n)).toInt = fahr n :=
    toInt_ofInt_32 (by unfold fahr; omega) (by unfold fahr; omega)
  have hk : (BitVec.ofInt 32 (kelv n)).toInt = kelv n :=
    toInt_ofInt_32 (by unfold kelv; omega) (by unfold kelv; omega)
  simp only [derivedReading, writeReading, hn, hf, hk]
  exact ⟨rfl, rfl⟩

theorem acceptFrame_keeps_inv {s : State} (hi : s.Inv) (hp : s.phase = .chk) :
    (acceptFrame s).Inv := by
  obtain ⟨hlo, hhi⟩ := decodeFrame_temp_bounds s.cfg.variant s.frame
  have hreading := derivedReading_writeReading hlo hhi (decodeFrame s.cfg.variant s.frame).1 s
  exact
    { hi with
      busy := by simp [acceptFrame]
      timer := by simp [acceptFrame, hi.ptRun_of_not_measuring, hp, Phase.isMeasuring]
      bits := bitsAgree_le hi.bits
      driven := by simp [acceptFrame, hi.driven, hp]
      sleep := by simp [acceptFrame, hi.sleep, hp]
      strobe := by simp [acceptFrame]
      fresh := by simp [acceptFrame]
      reading := .inr hreading }

theorem chkStep_keeps_inv {s : State} (hi : s.Inv) (hp : s.phase = .chk) : (chkStep s).Inv := by
  rcases chkStep_cases s with ⟨-, e⟩ | ⟨-, e⟩ <;> rw [e]
  · exact acceptFrame_keeps_inv hi hp
  · exact raiseFail_keeps_inv hi (by simp [hp]) _

/-! The whole step. -/

theorem controllerStep_keeps_inv {c : Clock} {s t : State} (h : controllerStep c s = .next t)
    (hi : s.Inv) : t.Inv := by
  rcases controllerStep_cases h with ⟨-, rfl⟩ | ⟨hp, rfl⟩ | ⟨hp, rfl⟩ | ⟨m, hm, hstep⟩ | ⟨hp, rfl⟩
  · exact hi
  · exact reqStep_keeps_inv hi hp
  · exact reqWaitStep_keeps_inv hi hp c
  · exact measureStep_keeps_inv hstep hi hm
  · exact chkStep_keeps_inv hi hp

theorem controllerTurn_keeps_inv {c : Clock} {s t : State} (h : controllerTurn c s = .next t)
    (hi : s.Inv) : t.Inv := by
  rcases controllerTurn_eq_next h with ⟨-, rfl⟩ | ⟨-, -, hstep⟩
  · exact hi
  · exact controllerStep_keeps_inv hstep hi

/-- Every step keeps the invariant: a reset sets it up afresh, the host's step and the controller's turn
each keep it once the clock has begun. -/
theorem step_keeps_inv {s t : State} (hi : s.Inv) (h : step s = .next t) : t.Inv := by
  rcases step_eq_next h with ⟨-, rfl⟩ | ⟨-, u, hhost, hctl⟩
  · exact resetStep_inv _
  · have hbegun := beginClock_keeps_inv (takeClock_keeps_inv hi) s.nextClock
    exact controllerTurn_keeps_inv hctl (hostStep_keeps_inv hhost hbegun (beginClock_doneStb _ _))

/-- Settles O46, by the parts of a clock. -/
theorem stepKeepsTheInvariant : Obligations.StepKeepsTheInvariant := fun _ _ => step_keeps_inv

end Sys2Proof.Machine
end

section
/-! PROOF. The controller's step follows the table of phases (R21, R139). -/

namespace Sys2Proof.Machine

open Sys2Proof

/-- The pairs of a phase and the phase after one controller step (R139). -/
def phaseTable : List (Phase × Phase) :=
  [(.idle, .idle), (.req, .reqWait), (.reqWait, .reqWait), (.reqWait, .measure .hs1),
   (.measure .hs1, .measure .hs1), (.measure .hs1, .measure .hs2), (.measure .hs1, .idle),
   (.measure .hs2, .measure .hs2), (.measure .hs2, .measure .hs3), (.measure .hs2, .idle),
   (.measure .hs3, .measure .hs3), (.measure .hs3, .measure .blo), (.measure .hs3, .idle),
   (.measure .blo, .measure .blo), (.measure .blo, .measure .bhi),
   (.measure .bhi, .measure .bhi), (.measure .bhi, .measure .blo), (.measure .bhi, .chk),
   (.measure .bhi, .idle), (.chk, .idle)]

theorem measure_stays_in_phaseTable (m : Meas) : (Phase.measure m, Phase.measure m) ∈ phaseTable := by
  cases m <;> decide

theorem continueMeas_phase_in_table {m : Meas} {r : Nat} {s t : State}
    (h : continueMeas m r s = .next t) : (Phase.measure m, t.phase) ∈ phaseTable := by
  rcases continueMeas_eq_next h with ⟨-, hm, rfl⟩ | ⟨-, rfl, rfl⟩ | ⟨-, rfl, rfl⟩ | ⟨-, rfl, rfl⟩ |
    ⟨rfl, rfl⟩ | ⟨-, rfl, rfl⟩ | ⟨-, rfl, -, rfl⟩
  · rcases hm with rfl | rfl | rfl <;> simp [phaseTable]
  · simp [phaseTable]
  · simp [phaseTable]
  · simp [phaseTable]
  · simp [phaseTable]
  · simp [phaseTable]
  · rw [countBit_phase]
    split <;> simp [phaseTable]

theorem measureStep_phase_in_table {m : Meas} {c : Clock} {s t : State}
    (h : measureStep m c s = .next t) (hm : s.phase = .measure m) :
    (Phase.measure m, t.phase) ∈ phaseTable := by
  rcases measureStep_cases m c s with ⟨-, -, e⟩ | ⟨-, -, e⟩ | ⟨-, -, -, e⟩ | ⟨-, -, -, e⟩ |
    ⟨-, -, e⟩ <;> rw [e] at h
  · cases h; rw [startTimer_phase, hm]; exact measure_stays_in_phaseTable m
  · exact continueMeas_phase_in_table h
  · cases h; rw [hm]; exact measure_stays_in_phaseTable m
  · exact continueMeas_phase_in_table h
  · exact continueMeas_phase_in_table h

theorem controllerStep_phase_in_table {c : Clock} {s t : State} (h : controllerStep c s = .next t) :
    (s.phase, t.phase) ∈ phaseTable := by
  rcases controllerStep_cases h with ⟨hp, rfl⟩ | ⟨hp, rfl⟩ | ⟨hp, rfl⟩ | ⟨m, hm, hstep⟩ | ⟨hp, rfl⟩
  · simp [hp, phaseTable]
  · simp [hp, phaseTable]
  · rcases reqWaitStep_cases c s with ⟨-, e⟩ | ⟨-, e⟩ <;> simp [e, hp, phaseTable]
  · rw [hm]; exact measureStep_phase_in_table hstep hm
  · rcases chkStep_cases s with ⟨-, e⟩ | ⟨-, e⟩ <;> simp [e, hp, acceptFrame, phaseTable]

/-- Settles O52, by the phase the step starts in. -/
theorem phasesFollowTheTable : Obligations.PhasesFollowTheTable :=
  fun _ _ _ h => controllerStep_phase_in_table h

end Sys2Proof.Machine
end

section
/-! PROOF. What a response reveals (R36, R225, R233). -/

namespace Sys2Proof.Machine

open Sys2Proof

/-- The response of a command as a function of the host-readable registers alone (R130, R191 to R196). -/
def commandResponse (i : Instr) (st : Status) (hum tempc : BitVec 16) (tempf tempk : BitVec 32) :
    Response :=
  match i with
  | .init => ⟨false, 0#32⟩
  | .read => if st.busy then ⟨true, rejBusy⟩ else ⟨false, 0#32⟩
  | .getStatus => ⟨false, statusWord st⟩
  | .getHum => ⟨false, zext32 hum⟩
  | .getTempc => ⟨false, sext32 tempc⟩
  | .getTempf => ⟨false, tempf⟩
  | .getTempk => ⟨false, tempk⟩

theorem exec_rsp {i : Instr} {s t : State} (h : exec i s = .next t) :
    t.rsp = some (commandResponse i s.status s.hum s.tempc s.tempf s.tempk) := by
  cases i
  case read =>
    simp only [exec, execRead] at h
    split at h <;> cases h <;> simp [commandResponse, *]
  all_goals cases h; rfl

/-- The response to a code on the port as a function of the host-readable registers alone (R197). -/
def codeResponse (code : Byte) (st : Status) (hum tempc : BitVec 16) (tempf tempk : BitVec 32) :
    Response :=
  match decode code with
  | .ok i => commandResponse i st hum tempc tempf tempk
  | .error _ => ⟨true, rejReserved⟩

theorem runCode_rsp {code : Byte} {s t : State} (h : runCode code s = .next t) :
    t.rsp = some (codeResponse code s.status s.hum s.tempc s.tempf s.tempk) := by
  rcases runCode_cases code s with ⟨i, hd, e⟩ | ⟨hd, e⟩ <;> rw [e] at h
  · simp [codeResponse, hd, exec_rsp h]
  · cases h; simp [codeResponse, hd]

/-- Settles O23: the response is a function of the registers on which the two states agree. -/
theorem responsesRevealOnlyReadableRegisters : Obligations.ResponsesRevealOnlyReadableRegisters := by
  intro s s' t t' code hst hhum htempc htempf htempk h h'
  rw [runCode_rsp h, runCode_rsp h', hst, hhum, htempc, htempf, htempk]

end Sys2Proof.Machine
end

section
/-! PROOF. The parts of a clock: what it is without a command, what a command does and sees in it, and
where it stops (R50, R55, R57, R58, R190, R198, R234). -/

namespace Sys2Proof.Machine

open Sys2Proof

/-! A reset clock, and a clock without a command on the port. -/

theorem step_of_reset {s : State} (h : s.nextClock.rst = true) :
    step s = .next (resetStep (beginClock s.nextClock (takeClock s))) := by
  simp [step, runClock, h]

theorem hostStep_of_no_command {c : Clock} {s : State} (h : portCommand c s = none) :
    hostStep c s = .next s := by
  simp [hostStep, h]

theorem step_of_no_reset {s : State} (h : s.nextClock.rst = false) :
    step s = andThen (hostStep s.nextClock (beginClock s.nextClock (takeClock s)))
      (controllerTurn s.nextClock) := by
  simp [step, runClock, h]

/-- A clock without reset and command is the controller's turn (R57). -/
theorem step_of_no_command {s : State} (hrst : s.nextClock.rst = false)
    (hport : portCommand s.nextClock s = none) :
    step s = controllerTurn s.nextClock (beginClock s.nextClock (takeClock s)) := by
  rw [step_of_no_reset hrst, hostStep_of_no_command (by simpa using hport), andThen_next]

theorem controllerTurn_of_idle (c : Clock) {s : State} (h : s.phase = .idle) :
    controllerTurn c s = .next s := by
  simp [controllerTurn, h]

/-- Settles O8. -/
theorem stepRunsTheController : Obligations.StepRunsTheController := by
  rintro s s0 c rfl rfl hrst hport
  rw [step_of_no_command hrst (by simpa using hport), controllerTurn, beginClock_phase, takeClock_phase]

/-- Settles O9: the port is empty, and the controller takes no turn in `IDLE`. -/
theorem idleClocksChangeNothing : Obligations.IdleClocksChangeNothing := by
  intro s c cs hcs hrst hidle hhost
  obtain rfl : s.nextClock = c := nextClock_of_cons hcs
  have hport : portCommand s.nextClock s = none := by
    rcases hhost with hquiet | ⟨hline, hscript⟩
    · simp [portCommand, hquiet]
    · simp [portCommand, hline, hscript]
  calc step s
      = controllerTurn s.nextClock (beginClock s.nextClock (takeClock s)) :=
        step_of_no_command hrst hport
    _ = .next (beginClock s.nextClock (takeClock s)) :=
        controllerTurn_of_idle _ (by simpa using hidle)
    _ = _ := by rw [takeClock_of_cons hcs]; rfl

/-! A command's side effects, and what it sees. -/

/-- Settles O21: of the two things a code can do, only the response is left. -/
theorem onlyAnAcceptedReadHasASideEffect : Obligations.OnlyAnAcceptedReadHasASideEffect := by
  intro s code hcode
  obtain ⟨t, ht⟩ := runCode_answers code s
  rcases runCode_eq_next ht with ⟨e, d, rfl, -⟩ | ⟨hread, hfree, -⟩
  · exact ⟨⟨e, d⟩, ht⟩
  · simp [hread, hfree] at hcode

/-- The response in a clock in which the host gives a command's code: it is made from the registers
before the clock, for the controller's turn leaves the response alone (R58). -/
theorem step_rsp_of_give {s t : State} {c : Clock} {cs : List Clock} {code : Byte} {i : Instr}
    (hcs : s.clocks = c :: cs) (hrst : c.rst = false) (hhost : c.host = .give code)
    (hdec : decode code = .ok i) (h : step s = .next t) :
    t.rsp = some (commandResponse i s.status s.hum s.tempc s.tempf s.tempk) := by
  obtain rfl : s.nextClock = c := nextClock_of_cons hcs
  rw [step_of_no_reset hrst] at h
  obtain ⟨u, hu, ht⟩ := andThen_eq_next.1 h
  have hcommand : exec i (beginClock s.nextClock (takeClock s)) = .next u := by
    simpa [hostStep, portCommand, hhost, runCode, hdec, andThen_eq_next, hostMovesOn] using hu
  obtain ⟨-, -, -, -, hrsp, -⟩ := controllerTurn_frame ht
  rw [hrsp, exec_rsp hcommand]
  simp

/-- Settles O55, command by command. -/
theorem hostCommandSeesTheStateBeforeTheController :
    Obligations.HostCommandSeesTheStateBeforeTheController := by
  intro s t c cs code hcs hrst hhost h
  have hresp {i : Instr} (hdec : decode code = .ok i) := step_rsp_of_give hcs hrst hhost hdec h
  refine ⟨?_, ?_, ?_, ?_, ?_, ?_⟩
  · rintro rfl; exact hresp (i := .getStatus) (by decide)
  · rintro rfl; exact hresp (i := .getHum) (by decide)
  · rintro rfl; exact hresp (i := .getTempc) (by decide)
  · rintro rfl; exact hresp (i := .getTempf) (by decide)
  · rintro rfl; exact hresp (i := .getTempk) (by decide)
  · rintro rfl hbusy
    simpa [commandResponse, hbusy, rejBusy] using hresp (i := .read) (by decide)

/-! The one stop: a frame byte that does not exist (R50, log entry 11). -/

theorem assembleBit_answers (bit : Bool) (s : State) :
    (∃ t, assembleBit bit s = .next t) ∨
    (40 ≤ s.bitIdx.toNat ∧ assembleBit bit s = .fault (.noFrameByte (s.bitIdx.toNat / 8))) := by
  rcases Nat.lt_or_ge s.bitIdx.toNat 40 with hlt | hge
  · exact .inl ⟨_, assembleBit_of_lt hlt⟩
  · exact .inr ⟨hge, assembleBit_of_ge hge⟩

theorem continueMeas_answers (m : Meas) (r : Nat) (s : State) :
    (∃ t, continueMeas m r s = .next t) ∨
    (m = .bhi ∧ 40 ≤ s.bitIdx.toNat ∧
      continueMeas m r s = .fault (.noFrameByte (s.bitIdx.toNat / 8))) := by
  cases m
  case bhi =>
    by_cases hr : r = 0
    · exact .inl ⟨raiseFail .timeout s, by simp [continueMeas, continueBhi, hr]⟩
    · simpa [continueMeas, continueBhi, hr] using assembleBit_answers (classify s.cfg.tBit1 r) s
  all_goals exact .inl ⟨_, rfl⟩

theorem measureStep_answers (m : Meas) (c : Clock) (s : State) :
    (∃ t, measureStep m c s = .next t) ∨
    (m = .bhi ∧ 40 ≤ s.bitIdx.toNat ∧
      measureStep m c s = .fault (.noFrameByte (s.bitIdx.toNat / 8))) := by
  rcases measureStep_cases m c s with ⟨-, -, e⟩ | ⟨-, -, e⟩ | ⟨-, -, -, e⟩ | ⟨-, -, -, e⟩ |
    ⟨-, -, e⟩ <;> rw [e]
  · exact .inl ⟨_, rfl⟩
  · exact continueMeas_answers m _ s
  · exact .inl ⟨_, rfl⟩
  · exact continueMeas_answers m _ (stopTimer s)
  · exact continueMeas_answers m _ (stopTimer s)

theorem controllerStep_answers (c : Clock) (s : State) :
    (∃ t, controllerStep c s = .next t) ∨
    (s.phase = .measure .bhi ∧ 40 ≤ s.bitIdx.toNat ∧
      controllerStep c s = .fault (.noFrameByte (s.bitIdx.toNat / 8))) := by
  cases hp : s.phase with
  | measure m => simpa [controllerStep, hp] using measureStep_answers m c s
  | _ => exact .inl ⟨_, by rw [controllerStep, hp]⟩

theorem controllerTurn_answers (c : Clock) (s : State) :
    (∃ t, controllerTurn c s = .next t) ∨
    (s.phase = .measure .bhi ∧ 40 ≤ s.bitIdx.toNat ∧
      controllerTurn c s = .fault (.noFrameByte (s.bitIdx.toNat / 8))) := by
  unfold controllerTurn
  split
  · exact controllerStep_answers c s
  · exact .inl ⟨s, rfl⟩

/-- A measuring phase after a host step was there before it, with the same bit count: an accepted `READ`
leads to `REQ`. -/
theorem hostStep_measuring {c : Clock} {s t : State} {m : Meas} (h : hostStep c s = .next t)
    (hm : t.phase = .measure m) : s.phase = .measure m ∧ t.bitIdx = s.bitIdx := by
  rcases hostStep_eq_next h with ⟨-, rfl⟩ | ⟨e, d, sc, rfl, -⟩ | ⟨-, -, sc, rfl⟩
  · exact ⟨hm, rfl⟩
  · exact ⟨hm, rfl⟩
  · simp at hm

/-- Everything a step can answer: a next state, or the fault of a missing frame byte. -/
theorem step_answers (s : State) :
    (∃ t, step s = .next t) ∨
    (s.phase = .measure .bhi ∧ 40 ≤ s.bitIdx.toNat ∧
      step s = .fault (.noFrameByte (s.bitIdx.toNat / 8))) := by
  cases hrst : s.nextClock.rst with
  | true => exact .inl ⟨_, step_of_reset hrst⟩
  | false =>
    obtain ⟨u, hu⟩ := hostStep_answers s.nextClock (beginClock s.nextClock (takeClock s))
    have hstep : step s = controllerTurn s.nextClock u := by rw [step_of_no_reset hrst, hu, andThen_next]
    rw [hstep]
    rcases controllerTurn_answers s.nextClock u with hnext | ⟨hphase, hbits, hfault⟩
    · exact .inl hnext
    · obtain ⟨hphase', hbits'⟩ := hostStep_measuring hu hphase
      simp only [beginClock_phase, takeClock_phase, beginClock_bitIdx, takeClock_bitIdx] at hphase' hbits'
      exact .inr ⟨hphase', hbits' ▸ hbits, hbits' ▸ hfault⟩

/-- Settles O49: a step answers a next state or the one fault. -/
theorem onlyAMissingFrameByteStops : Obligations.OnlyAMissingFrameByteStops := by
  intro s
  rcases step_answers s with ⟨t, hnext⟩ | ⟨hphase, hbits, hfault⟩
  · simp [hnext]
  · rw [hfault]
    exact ⟨fun r => by simp, fun f hf => ⟨hphase, hbits, by simpa using hf.symm⟩⟩

end Sys2Proof.Machine
end

section
/-! PROOF. The decoder, the encoder and the text of a script (R71, R72, R74, R83, R84, log entry 14). -/

namespace Sys2Proof

/-! The opcode table and the decoder. -/

/-- Every row matches all 8 bits, and its pattern is its command's code (R71, R72). -/
theorem opcodeTable_row {row : OpcodeRow} (h : row ∈ opcodeTable) :
    row.mask = 0xFF#8 ∧ row.pattern = encode row.instr := by
  revert row; decide

/-- A row of the table accepts its command's code alone. -/
theorem OpcodeRow.accepts_iff {row : OpcodeRow} (h : row ∈ opcodeTable) (code : Byte) :
    row.accepts code = true ↔ code = encode row.instr := by
  obtain ⟨hmask, hpattern⟩ := opcodeTable_row h
  have hall : code &&& 0xFF#8 = code := BitVec.and_allOnes
  rw [accepts, hmask, hpattern, hall, beq_iff_eq]

theorem mem_allInstrs (i : Instr) : i ∈ allInstrs := by cases i <;> decide

theorem decode_encode (i : Instr) : decode (encode i) = .ok i := by cases i <;> rfl

/-- Everything the decoder can answer: the command of the code, or that no command has it. -/
theorem decode_cases (code : Byte) :
    (∃ i, code = encode i ∧ decode code = .ok i) ∨
    ((∀ i, encode i ≠ code) ∧ decode code = .error (.reserved code)) := by
  unfold decode
  split
  · rename_i row hrow
    have haccepts : row.accepts code = true :=
      List.find?_some (p := fun r : OpcodeRow => r.accepts code) hrow
    exact .inl ⟨row.instr,
      (OpcodeRow.accepts_iff (List.mem_of_find?_eq_some hrow) code).1 haccepts, rfl⟩
  · rename_i hnone
    refine .inr ⟨fun i hi => ?_, rfl⟩
    obtain ⟨row, hrow, rfl⟩ := List.mem_map.1 (mem_allInstrs i)
    exact List.find?_eq_none.1 hnone row hrow ((OpcodeRow.accepts_iff hrow code).2 hi.symm)

theorem decode_eq_ok_iff {code : Byte} {i : Instr} : decode code = .ok i ↔ code = encode i := by
  constructor
  · intro h
    rcases decode_cases code with ⟨j, hcode, hj⟩ | ⟨-, hreserved⟩
    · obtain rfl : j = i := by simpa [hj] using h
      exact hcode
    · simp [hreserved] at h
  · rintro rfl
    exact decode_encode i

theorem decode_of_reserved {code : Byte} (h : ∀ i, encode i ≠ code) :
    decode code = .error (.reserved code) := by
  rcases decode_cases code with ⟨i, hcode, -⟩ | ⟨-, hreserved⟩
  · exact absurd hcode.symm (h i)
  · exact hreserved

/-- Settles O1: the table written out is each command with its code. -/
theorem assignedCodesAreExactlyTheTable : Obligations.AssignedCodesAreExactlyTheTable := by
  intro code i
  show _ ↔ (code, i) ∈ allInstrs.map (fun j => (encode j, j))
  rw [decode_eq_ok_iff]
  simp [mem_allInstrs, eq_comm]

/-- Settles O4. -/
theorem encodeAndDecodeAgree : Obligations.EncodeAndDecodeAgree :=
  ⟨decode_encode, fun _ _ => decode_eq_ok_iff.1⟩

/-- `GRP` stands in bits 7 to 4 of a command's code (R71). -/
theorem encode_group (i : Instr) : (encode i).extractLsb' 4 4 = i.group := by cases i <;> rfl

theorem Instr.group_eq (i : Instr) : i.group = if i = .init ∨ i = .read then 0x0#4 else 0x1#4 := by
  cases i <;> rfl

/-- Settles O2: a code whose `GRP` no command has is no command's code. -/
theorem groupNibbleSeparatesControlFromAccessors :
    Obligations.GroupNibbleSeparatesControlFromAccessors := by
  refine ⟨fun i => (encode_group i).trans i.group_eq, fun code hcontrol haccessor => ?_⟩
  apply decode_of_reserved
  rintro i rfl
  rw [encode_group, Instr.group_eq] at hcontrol haccessor
  by_cases hi : i = .init ∨ i = .read
  · exact hcontrol (if_pos hi)
  · exact haccessor (if_neg hi)

/-- A row of the opcode table decodes to its command as a code on the port does (R83). -/
theorem decode_of_decodeTableWord {n w : Nat} {i : Instr} (h : decodeTableWord n w = some i) :
    decode (BitVec.ofNat 8 w) = .ok i := by
  unfold decodeTableWord at h
  split at h
  · split at h
    · rename_i hd
      rw [hd, Option.some.inj h]
    · cases h
  · cases h

/-! The text of a script's line. -/

theorem bne_semicolon_of_no_comment {text : List Char} (h : ';' ∉ text) :
    ∀ c ∈ text, (c != ';') = true := by
  intro c hc
  simpa using ne_of_mem_of_not_mem hc h

/-- A comment is no part of a line's text (R84). -/
theorem lineText_append_comment {text : List Char} (h : ';' ∉ text) (comment : List Char) :
    lineText (text ++ ';' :: comment) = lineText text := by
  have hall := bne_semicolon_of_no_comment h
  rw [lineText, lineText, List.takeWhile_append_of_pos hall, List.takeWhile_eq_self_iff.2 hall]
  simp

theorem parseLine_congr {l l' : List Char} (h : lineText l = lineText l') :
    parseLine l = parseLine l' := by
  simp only [parseLine, h]

/-- A line with no comment and no blank at either end is its own text. -/
theorem lineText_eq_self {line : List Char} (hcomment : ';' ∉ line)
    (hstart : line.dropWhile isBlank = line)
    (hend : line.reverse.dropWhile isBlank = line.reverse) : lineText line = line := by
  rw [lineText, List.takeWhile_eq_self_iff.2 (bne_semicolon_of_no_comment hcomment), hstart, hend,
    List.reverse_reverse]

/-- A text that is neither empty nor a name is read as a `.byte` directive. -/
theorem parseLine_of_rawByte {line operand : List Char} {b : Byte} (htext : lineText line = line)
    (hoperand : byteOperand line = some operand) (hbyte : rawByteOf operand = some b)
    (hwait : line ≠ waitDoneName) (hname : ∀ i : Instr, i.mnemonic ≠ line) :
    parseLine line = .ok [.rawByte b] := by
  have hne : line ≠ [] := by rintro rfl; cases hoperand
  have hnone : allInstrs.find? (fun i => decide (i.mnemonic = line)) = none := by
    simp [List.find?_eq_none, hname]
  simp [parseLine, htext, hne, hwait, hnone, hoperand, hbyte]

/-- A listed digit has its place as its value, and is no blank and no comment sign (log entry 14). -/
theorem hexDigit_of_mem {c : Char} {n : Nat}
    (h : (c, n) ∈ "0123456789ABCDEF".toList.zipIdx ++ "0123456789abcdef".toList.zipIdx) :
    hexDigit c = some n ∧ isBlank c = false ∧ ';' ≠ c := by
  have hall : ∀ p ∈ "0123456789ABCDEF".toList.zipIdx ++ "0123456789abcdef".toList.zipIdx,
      hexDigit p.1 = some p.2 ∧ isBlank p.1 = false ∧ ';' ≠ p.1 := by decide
  exact hall (c, n) h

theorem rawByteOf_of_digits {hi lo : Char} {h l : Nat} (hhi : hexDigit hi = some h)
    (hlo : hexDigit lo = some l) :
    rawByteOf ['0', 'x', hi, lo] = some (BitVec.ofNat 8 (16 * h + l)) := by
  simp [rawByteOf, hhi, hlo]

/-- A `.byte` directive is its own text when its digits are no comment signs and the last no blank. -/
theorem parseLine_byte {hi lo : Char} {h l : Nat} (hhi : hexDigit hi = some h)
    (hlo : hexDigit lo = some l) (hhicomment : ';' ≠ hi) (hlocomment : ';' ≠ lo)
    (hloblank : isBlank lo = false) :
    parseLine (".byte 0x".toList ++ [hi, lo]) = .ok [.rawByte (BitVec.ofNat 8 (16 * h + l))] := by
  show parseLine ['.', 'b', 'y', 't', 'e', ' ', '0', 'x', hi, lo] = _
  refine parseLine_of_rawByte (operand := ['0', 'x', hi, lo]) (lineText_eq_self ?_ rfl ?_) rfl
    (rawByteOf_of_digits hhi hlo) ?_ ?_
  · simp [hhicomment, hlocomment]
  · simp [hloblank]
  · simp [waitDoneName]
  · intro i; cases i <;> simp [Instr.mnemonic]

/-- Settles O5. -/
theorem scriptTextIsReadAsItsLines : Obligations.ScriptTextIsReadAsItsLines := by
  refine ⟨fun i => ?_, rfl, fun hi lo h l hhi hlo => ?_, fun text comment h => ?_⟩
  · cases i <;> rfl
  · obtain ⟨hhival, -, hhicomment⟩ := hexDigit_of_mem hhi
    obtain ⟨hloval, hloblank, hlocomment⟩ := hexDigit_of_mem hlo
    exact parseLine_byte hhival hloval hhicomment hlocomment hloblank
  · exact parseLine_congr (lineText_append_comment h comment)

end Sys2Proof
end

section
/-! PROOF. A command on the port: its rejections (R75, R230), the values it returns (R77), how it is
fetched (R190) and how a script moves on (R84). -/

namespace Sys2Proof.Machine

open Sys2Proof

/-! Rejections. -/

/-- A command's response is an error only for a `READ` while busy (R75, R230). -/
theorem commandResponse_err_iff {i : Instr} {st : Status} {hum tempc : BitVec 16}
    {tempf tempk : BitVec 32} :
    (commandResponse i st hum tempc tempf tempk).err = true ↔ i = .read ∧ st.busy = true := by
  cases i
  case read => cases hb : st.busy <;> simp [commandResponse, hb]
  all_goals simp [commandResponse]

/-- A rejection writes nothing but the response: the start of a read responds without error. -/
theorem runCode_of_rejection {code : Byte} {s t : State} {r : Response} (h : runCode code s = .next t)
    (hr : t.rsp = some r) (herr : r.err = true) : t = { s with rsp := some r } := by
  rcases runCode_eq_next h with ⟨e, d, rfl, -⟩ | ⟨-, -, rfl⟩
  · cases hr; rfl
  · cases hr; cases herr

theorem encode_eq_read_iff {i : Instr} : encode i = 0x02#8 ↔ i = .read := by
  cases i <;> decide

/-- Settles O22: the response as a function of the code, reserved or a command's. -/
theorem rejectionsAreExactlyReservedAndBusy : Obligations.RejectionsAreExactlyReservedAndBusy := by
  intro s code
  obtain ⟨t, ht⟩ := runCode_answers code s
  rcases decode_cases code with ⟨i, rfl, hd⟩ | ⟨hreserved, hd⟩
  · have hrsp : t.rsp = some (commandResponse i s.status s.hum s.tempc s.tempf s.tempk) := by
      simpa [codeResponse, hd] using runCode_rsp ht
    refine ⟨t, _, ht, hrsp, ?_, fun h => absurd rfl (h i), ?_, runCode_of_rejection ht hrsp⟩
    · simp [commandResponse_err_iff, encode_eq_read_iff]
    · intro hread hbusy
      obtain rfl := encode_eq_read_iff.1 hread
      simp [commandResponse, hbusy, rejBusy]
  · have hrsp : t.rsp = some ⟨true, rejReserved⟩ := by
      simpa [codeResponse, hd] using runCode_rsp ht
    exact ⟨t, _, ht, hrsp, by simp [hreserved], fun _ => rfl,
      fun hread => absurd hread.symm (hreserved .read), runCode_of_rejection ht hrsp⟩

/-! Results. -/

/-- Zero extension keeps the unsigned value (R9). -/
theorem zext32_toNat (v : BitVec 16) : (zext32 v).toNat = v.toNat := by
  rw [zext32, BitVec.toNat_setWidth]
  exact Nat.mod_eq_of_lt (by omega)

/-- Sign extension keeps the signed value (R9). -/
theorem sext32_toInt (v : BitVec 16) : (sext32 v).toInt = v.toInt :=
  BitVec.toInt_signExtend_of_le (by decide)

/-- Settles O19: `HUM` is zero-extended, `TEMPC` sign-extended, the other two are words as they are. -/
theorem resultWordsCarryTheRegisterValues : Obligations.ResultWordsCarryTheRegisterValues := fun s =>
  ⟨⟨_, rfl, zext32_toNat s.hum⟩, ⟨_, rfl, sext32_toInt s.tempc⟩, ⟨_, rfl, rfl⟩, ⟨_, rfl, rfl⟩⟩

/-! A command's code on the port. -/

theorem andThen_next_right (o : Result) : andThen o (fun t => .next t) = o := by cases o <;> rfl

theorem runCode_of_decode {code : Byte} {i : Instr} (h : decode code = .ok i) (s : State) :
    runCode code s = exec i s := by
  simp [runCode, h]

theorem controllerTurn_of_no_ctl {c : Clock} (h : c.ctl = false) (s : State) :
    controllerTurn c s = .next s := by
  simp [controllerTurn, h]

/-- In a clock that only gives a code, the code is all that runs (log entry 15). -/
theorem runClock_commandClock (code : Byte) (s : State) :
    runClock (commandClock code) s = runCode code s := by
  have hturn : controllerTurn (commandClock code) = fun t => .next t :=
    funext (controllerTurn_of_no_ctl rfl)
  have hhost : hostStep (commandClock code) s = andThen (runCode code s) (fun t => .next t) := rfl
  have hclock : runClock (commandClock code) s =
      andThen (hostStep (commandClock code) s) (controllerTurn (commandClock code)) := rfl
  rw [hclock, hturn, hhost, andThen_next_right, andThen_next_right]

/-- Settles O7. -/
theorem fetchedWordIsRunNext : Obligations.FetchedWordIsRunNext := by
  intro s w i h
  have hclocks : (s.withFetchWord 8 w).clocks = commandClock (BitVec.ofNat 8 w) :: s.clocks := rfl
  rw [step_of_cons hclocks, runClock_commandClock, runCode_of_decode (decode_of_decodeTableWord h)]
  rfl

/-! A script's line. -/

theorem runCode_script {code : Byte} {s t : State} (h : runCode code s = .next t) :
    t.script = s.script := by
  rcases runCode_eq_next h with ⟨e, d, rfl, -⟩ | ⟨-, -, rfl⟩ <;> rfl

theorem runCode_waitDone (s : State) :
    runCode ScriptLine.waitDone.code s = .next (respond false (statusWord s.status) s) := rfl

/-- How the host moves on from a line whose code has run: `WAITDONE` stays while the read it asked
about is in flight (R84). -/
theorem hostMovesOn_of_runCode {c : Clock} {s t : State} {line : ScriptLine} {rest : List ScriptLine}
    (hhost : c.host = .nextLine) (hscript : s.script = line :: rest)
    (h : runCode line.code s = .next t) :
    hostMovesOn c t = { t with
      script := if line = .waitDone ∧ s.status.busy = true then line :: rest else rest } := by
  rw [hostMovesOn_of_line hhost ((runCode_script h).trans hscript)]
  by_cases hline : line = .waitDone
  · subst hline
    rw [runCode_waitDone] at h
    cases h
    simp
  · simp [hline]

/-- A clock that gives a script's line: its code runs, the script moves on, the controller takes its
turn (R84, R190, log entries 1 and 13). -/
theorem step_of_line {s : State} {line : ScriptLine} {rest : List ScriptLine}
    (hrst : s.nextClock.rst = false) (hhost : s.nextClock.host = .nextLine)
    (hscript : s.script = line :: rest) :
    ∃ t, runCode line.code (beginClock s.nextClock (takeClock s)) = .next t ∧
      step s = controllerTurn s.nextClock { t with
        script := if line = .waitDone ∧ s.status.busy = true then line :: rest else rest } := by
  obtain ⟨t, ht⟩ := runCode_answers line.code (beginClock s.nextClock (takeClock s))
  have hport : portCommand s.nextClock (beginClock s.nextClock (takeClock s)) = some line.code := by
    simp [portCommand, hhost, hscript]
  have hmoves := hostMovesOn_of_runCode hhost (by simpa using hscript) ht
  refine ⟨t, ht, ?_⟩
  rw [step_of_no_reset hrst, hostStep, hport]
  simp [ht, hmoves]

/-- Settles O24: the last clause is a `WAITDONE` clock without the controller's turn. -/
theorem waitDoneRepeatsWhileBusy : Obligations.WaitDoneRepeatsWhileBusy := by
  refine ⟨⟨fun _ => rfl, rfl, fun _ => rfl⟩, ?_, ?_⟩
  · rintro s s0 c line rest rfl rfl hrst hhost hscript
    exact step_of_line hrst hhost hscript
  · intro s c cs rest hcs hrst hhost hctl hscript
    obtain rfl : s.nextClock = c := nextClock_of_cons hcs
    obtain ⟨t, ht, hstep⟩ := step_of_line hrst hhost hscript
    rw [runCode_waitDone] at ht
    cases ht
    rw [hstep, controllerTurn_of_no_ctl hctl, takeClock_of_cons hcs]
    simp [respond, beginClock]

end Sys2Proof.Machine
end

section
/-! PROOF. The pulse timer and the pulse classifier (R100 to R105, R107, R108, R139). -/

namespace Sys2Proof.Machine

open Sys2Proof

/-! The timer's step. -/

theorem controllerStep_of_measure {s : State} {m : Meas} (h : s.phase = .measure m) (c : Clock) :
    controllerStep c s = measureStep m c s := by
  simp [controllerStep, h]

/-- Settles O27: the two cases of a start. -/
theorem measurementStart : Obligations.MeasurementStart := by
  intro s c m hm hrun
  rw [controllerStep_of_measure hm]
  rcases measureStep_cases m c s with ⟨-, hp, e⟩ | ⟨-, hp, e⟩ | ⟨h, -⟩ | ⟨h, -⟩ | ⟨h, -⟩
  · rw [e, if_pos hp]; rfl
  · rw [e, if_neg hp]
  all_goals simp [hrun] at h

/-- Settles O28: the three cases of a poll. -/
theorem measurementPoll : Obligations.MeasurementPoll := by
  intro s c m e hm hrun he
  obtain rfl : e = elapsedTime s.cfg.tw (sampleTime s) s.ptT0 := by
    rw [← Int.toNat_natCast e, he]; rfl
  rw [controllerStep_of_measure hm]
  rcases measureStep_cases m c s with ⟨h, -⟩ | ⟨h, -⟩ | ⟨-, hp, ht, e⟩ | ⟨-, hp, ht, e⟩ | ⟨-, hp, e⟩
  · simp [hrun] at h
  · simp [hrun] at h
  · rw [e, if_neg (not_not.2 hp), if_neg ht.not_gt]
  · rw [e, if_neg (not_not.2 hp), if_pos ht]; rfl
  · rw [e, if_pos hp]; rfl

/-- Settles O29. -/
theorem measurementOperands : Obligations.MeasurementOperands := by
  intro v m _
  cases m <;> rfl

/-- Settles O30: a step of the timer leaves the state, or starts or stops the timer in it. -/
theorem timerWritesOnlyItsOwnState : Obligations.TimerWritesOnlyItsOwnState := by
  intro s t c m r h
  rcases ptStep_cases m c s with ⟨-, -, e⟩ | ⟨-, -, e⟩ | ⟨-, -, -, e⟩ | ⟨-, -, -, e⟩ | ⟨-, -, e⟩ <;>
    cases e.symm.trans h <;> rfl

/-! The elapsed time and the result. -/

/-- Settles O31: the elapsed time is 0 at the start, and grows by the true time modulo `2^TW`. -/
theorem elapsedTimeSurvivesWrapAround : Obligations.ElapsedTimeSurvivesWrapAround := by
  intro tw t0 t1 hle hlt
  calc elapsedTime tw (t1 % 2 ^ tw) (t0 % 2 ^ tw)
      = elapsedTime tw ((t0 + (t1 - t0)) % 2 ^ tw) (t0 % 2 ^ tw) := by rw [Nat.add_sub_cancel' hle]
    _ = (0 + (t1 - t0)) % 2 ^ tw := by rw [elapsedTime_add, elapsedTime_self]
    _ = t1 - t0 := by rw [Nat.zero_add, Nat.mod_eq_of_lt hlt]

/-- A timer step that goes on leaves the timer running, its elapsed time not above the timeout: 0 at the
start, tested at a poll. -/
theorem ptStep_goes_on {m : Meas} {c : Clock} {s t : State} (h : ptStep m c s = (t, none)) :
    t.ptRun = true ∧ elapsedTime t.cfg.tw (sampleTime t) t.ptT0 ≤ timeoutOf t.cfg m := by
  rcases ptStep_cases m c s with ⟨-, -, e⟩ | ⟨-, -, e⟩ | ⟨hrun, -, hle, e⟩ | ⟨-, -, -, e⟩ | ⟨-, -, e⟩ <;>
    cases e.symm.trans h
  · have hnow : sampleTime (startTimer (sampleTime s) s) = sampleTime s := rfl
    simp [hnow]
  · exact ⟨hrun, hle⟩

/-- A result is 0 or the elapsed time at the poll. -/
theorem ptStep_result_le {m : Meas} {c : Clock} {s t : State} {r : Nat}
    (h : ptStep m c s = (t, some r)) : r ≤ elapsedTime s.cfg.tw (sampleTime s) s.ptT0 := by
  rcases ptStep_cases m c s with ⟨-, -, e⟩ | ⟨-, -, e⟩ | ⟨-, -, -, e⟩ | ⟨-, -, -, e⟩ | ⟨-, -, e⟩ <;>
    cases e.symm.trans h
  · exact Nat.zero_le _
  · exact Nat.zero_le _
  · exact le_rfl

/-- The elapsed time grows by at most what the clock says. -/
theorem elapsedTime_beginClock_le (c : Clock) (s : State) :
    elapsedTime s.cfg.tw (sampleTime (beginClock c s)) s.ptT0 ≤
      elapsedTime s.cfg.tw (sampleTime s) s.ptT0 + c.elapsed :=
  (elapsedTime_add s.cfg.tw s.usCount c.elapsed s.ptT0).le.trans (Nat.mod_le _ _)

/-- Settles O32. -/
theorem densePollsBoundTheResult : Obligations.DensePollsBoundTheResult := by
  refine fun s t c m => ⟨ptStep_goes_on, fun r _ hbound hdense h => ?_⟩
  calc r ≤ elapsedTime s.cfg.tw (sampleTime (beginClock c s)) s.ptT0 := ptStep_result_le h
    _ ≤ elapsedTime s.cfg.tw (sampleTime s) s.ptT0 + c.elapsed := elapsedTime_beginClock_le c s
    _ ≤ timeoutOf s.cfg m + 1 := Nat.add_le_add hbound hdense

/-- Settles O33: the three ways in which a timer step ends a measurement, each with its result. -/
theorem noSignalHasThreeCauses : Obligations.NoSignalHasThreeCauses := by
  intro s t c m r h
  change _ ↔ _ ∨ (_ ∧ _ ∧ _ < elapsedTime s.cfg.tw (sampleTime s) s.ptT0) ∨
    (_ ∧ _ ∧ elapsedTime s.cfg.tw (sampleTime s) s.ptT0 = 0)
  rcases ptStep_cases m c s with ⟨-, -, e⟩ | ⟨hrun, hp, e⟩ | ⟨-, -, -, e⟩ | ⟨hrun, hp, ht, e⟩ |
    ⟨hrun, hp, e⟩ <;> cases e.symm.trans h
  · simp [hrun, hp]
  · simp [hrun, hp, ht]
  · simp [hrun, hp]

/-! The classifier. -/

theorem classify_iff (threshold d : Nat) : classify threshold d = true ↔ threshold < d := by
  simp [classify]

/-- Settles O34. -/
theorem classifierThreshold : Obligations.ClassifierThreshold :=
  ⟨classify_iff, fun _ => ⟨rfl, rfl⟩⟩

end Sys2Proof.Machine
end

section
/-! PROOF. A densely polled read completes (R106, R139, R236, R237, R261). The measure `stepsLeft` bounds
the clocks a read still takes, and every dense clock lowers it or ends the read. -/

namespace Sys2Proof.Machine

open Sys2Proof

/-! Progress under the invariant. -/

theorem bitsAgree_bhi_lt {n : Nat} (h : bitsAgree (.measure .bhi) n) : n < 40 := h

/-- Under the invariant a step answers a next state: while bits arrive there are fewer than 40. -/
theorem State.Inv.step_goesOn {s : State} (hi : s.Inv) : s.goesOn := by
  rcases step_answers s with hnext | ⟨hphase, hbits, -⟩
  · exact hnext
  · exact absurd (bitsAgree_bhi_lt (hphase ▸ hi.bits)) hbits.not_gt

/-! The measure. -/

/-- The polls a measurement still takes, the next of them at the true count `now` and then one every
microsecond; the start of one that does not run yet counts too. -/
def pollsLeft (m : Meas) (now : Nat) (s : State) : Nat :=
  if s.ptRun then timeoutOf s.cfg m + 1 - elapsedTime s.cfg.tw (now % 2 ^ s.cfg.tw) s.ptT0 + 1
  else timeoutOf s.cfg m + 2

/-- The steps a read takes after its bit number `n`, counted from 0: the bits that follow, and `CHK`. -/
def stepsAfterBit (c : Config) (n : Nat) : Nat := (39 - n) * ((c.tBlo + 2) + (c.tBhi + 2)) + 1

/-- The steps a read takes after the measurement of phase `m`, when `n` bits have been received. -/
def stepsAfter (c : Config) (n : Nat) : Meas → Nat
  | .hs1 => (c.tHs2 + 2) + ((c.tHs3 + 2) + ((c.tBlo + 2) + ((c.tBhi + 2) + stepsAfterBit c n)))
  | .hs2 => (c.tHs3 + 2) + ((c.tBlo + 2) + ((c.tBhi + 2) + stepsAfterBit c n))
  | .hs3 => (c.tBlo + 2) + ((c.tBhi + 2) + stepsAfterBit c n)
  | .blo => (c.tBhi + 2) + stepsAfterBit c n
  | .bhi => stepsAfterBit c n

/-- The controller steps a read still takes when the next of them samples the true count `now` and the
sleep driver answers. -/
def stepsLeft (now : Nat) (s : State) : Nat :=
  match s.phase with
  | .idle => 0
  | .req => (s.cfg.tHs1 + 2) + stepsAfter s.cfg s.bitIdx.toNat .hs1 + 2
  | .reqWait => (s.cfg.tHs1 + 2) + stepsAfter s.cfg s.bitIdx.toNat .hs1 + 1
  | .measure m => pollsLeft m now s + stepsAfter s.cfg s.bitIdx.toNat m
  | .chk => 1

theorem pollsLeft_of_stopped {s : State} (h : s.ptRun = false) (m : Meas) (now : Nat) :
    pollsLeft m now s = timeoutOf s.cfg m + 2 := by
  simp [pollsLeft, h]

theorem pollsLeft_pos (m : Meas) (now : Nat) (s : State) : 0 < pollsLeft m now s := by
  unfold pollsLeft
  split <;> omega

theorem pollsLeft_le (m : Meas) (now : Nat) (s : State) : pollsLeft m now s ≤ timeoutOf s.cfg m + 2 := by
  unfold pollsLeft
  split <;> omega

theorem stepsLeft_pos {s : State} (h : s.phase ≠ .idle) (now : Nat) : 0 < stepsLeft now s := by
  unfold stepsLeft
  split
  · exact absurd ‹s.phase = .idle› h
  · exact Nat.succ_pos _
  · exact Nat.succ_pos _
  · exact Nat.add_pos_left (pollsLeft_pos _ _ _) _
  · exact Nat.one_pos

/-- After a sample within the timeout the next one, a microsecond later, does not wrap: this is where
`T + 1 < 2^TW` is needed. -/
theorem pollsLeft_of_running {s : State} {m : Meas} (hrun : s.ptRun = true)
    (hle : elapsedTime s.cfg.tw (sampleTime s) s.ptT0 ≤ timeoutOf s.cfg m)
    (hwidth : timeoutOf s.cfg m + 1 < 2 ^ s.cfg.tw) :
    pollsLeft m (s.usCount + 1) s =
      timeoutOf s.cfg m + 1 - elapsedTime s.cfg.tw (sampleTime s) s.ptT0 := by
  have hlt : elapsedTime s.cfg.tw (sampleTime s) s.ptT0 + 1 < 2 ^ s.cfg.tw := by omega
  have hnext : elapsedTime s.cfg.tw ((s.usCount + 1) % 2 ^ s.cfg.tw) s.ptT0 =
      elapsedTime s.cfg.tw (sampleTime s) s.ptT0 + 1 :=
    (elapsedTime_add s.cfg.tw s.usCount 1 s.ptT0).trans (Nat.mod_eq_of_lt hlt)
  rw [pollsLeft, if_pos hrun, hnext]
  omega

/-- The timer keeps what the measure of a read needs beside its own registers. -/
theorem ptStep_keeps_cfg_bitIdx_phase {s t : State} {m : Meas} {c : Clock} {r : Option Nat}
    (h : ptStep m c s = (t, r)) :
    t.cfg = s.cfg ∧ t.bitIdx = s.bitIdx ∧ t.phase = s.phase := by
  rw [timerWritesOnlyItsOwnState s t c m r h]
  exact ⟨rfl, rfl, rfl⟩

/-- A timer step that gives a result leaves the timer stopped. -/
theorem ptRun_of_ptStep_result {s t : State} {m : Meas} {c : Clock} {r : Nat}
    (h : ptStep m c s = (t, some r)) :
    t.ptRun = false := by
  rcases ptStep_cases m c s with ⟨-, -, e⟩ | ⟨hstop, -, e⟩ | ⟨-, -, -, e⟩ | ⟨-, -, -, e⟩ | ⟨-, -, e⟩ <;>
    cases e.symm.trans h
  · exact hstop
  · rfl
  · rfl

/-- A timer step that goes on takes one from the polls left. -/
theorem pollsLeft_of_goes_on {s t : State} {m : Meas} {c : Clock} (h : ptStep m c s = (t, none))
    (hwidth : timeoutOf s.cfg m + 1 < 2 ^ s.cfg.tw) :
    pollsLeft m (s.usCount + 1) t < pollsLeft m s.usCount s := by
  obtain ⟨hrun, hle⟩ := ptStep_goes_on h
  rcases ptStep_cases m c s with ⟨hstop, -, e⟩ | ⟨-, -, e⟩ | ⟨-, -, -, e⟩ | ⟨-, -, -, e⟩ | ⟨-, -, e⟩ <;>
    cases e.symm.trans h
  · have hleft := pollsLeft_of_running hrun hle hwidth
    rw [startTimer_usCount, startTimer_cfg] at hleft
    rw [hleft, pollsLeft_of_stopped hstop]
    omega
  · rw [pollsLeft_of_running hrun hle hwidth, pollsLeft, if_pos hrun]
    show _ < _ + 1 - elapsedTime s.cfg.tw (sampleTime s) s.ptT0 + 1
    omega

/-! A step of the controller. -/

/-- The read has completed, or it is in flight with fewer than `n` steps left. -/
def doneOrFewerLeft (now n : Nat) (t : State) : Prop :=
  t.doneStb = true ∨ (t.phase ≠ .idle ∧ stepsLeft now t < n)

theorem doneOrFewerLeft.mono {now n n' : Nat} {t : State} (h : doneOrFewerLeft now n t) (hn : n ≤ n') :
    doneOrFewerLeft now n' t :=
  h.imp_right fun ⟨hphase, hleft⟩ => ⟨hphase, hleft.trans_le hn⟩

/-- Every bit but the last is followed by the two measurements of the next. -/
theorem stepsAfterBit_succ (c : Config) {n : Nat} (h : n + 1 < 40) :
    stepsAfterBit c n = (c.tBlo + 2) + ((c.tBhi + 2) + stepsAfterBit c (n + 1)) := by
  have hleft : 39 - n = 39 - (n + 1) + 1 := by omega
  rw [stepsAfterBit, stepsAfterBit, hleft, Nat.succ_mul]
  omega

/-- The last bit is followed by `CHK` alone. -/
theorem stepsAfterBit_last (c : Config) {n : Nat} (h : n + 1 = 40) : stepsAfterBit c n = 1 := by
  obtain rfl : n = 39 := by omega
  simp [stepsAfterBit]

/-- After a stored bit the next marker is measured, or the frame checked (R137). -/
theorem stepsLeft_countBit {s : State} (hrun : s.ptRun = false) (hn : s.bitIdx.toNat < 40) (now : Nat) :
    stepsLeft now (countBit s) = stepsAfterBit s.cfg s.bitIdx.toNat := by
  by_cases hlast : s.bitIdx.toNat + 1 = 40
  · rw [stepsAfterBit_last s.cfg hlast]
    simp [stepsLeft, hlast]
  · rw [stepsAfterBit_succ s.cfg (by omega)]
    simp only [stepsLeft, countBit_phase, if_neg hlast, countBit_cfg, countBit_bitIdx]
    rw [bitIdx_succ_toNat hn, pollsLeft_of_stopped (by simpa using hrun)]
    rfl

/-- A continuation ends the read or leads on to what follows the measurement. -/
theorem continueMeas_doneOrFewerLeft {m : Meas} {r : Nat} {s t : State}
    (h : continueMeas m r s = .next t) (hrun : s.ptRun = false) (now : Nat) :
    doneOrFewerLeft now (stepsAfter s.cfg s.bitIdx.toNat m + 1) t := by
  have leads (m' : Meas) (hm : stepsAfter s.cfg s.bitIdx.toNat m =
      (timeoutOf s.cfg m' + 2) + stepsAfter s.cfg s.bitIdx.toNat m') :
      doneOrFewerLeft now (stepsAfter s.cfg s.bitIdx.toNat m + 1) (goto (.measure m') s) := by
    refine .inr ⟨by simp, ?_⟩
    show pollsLeft m' now s + stepsAfter s.cfg s.bitIdx.toNat m' < _
    rw [pollsLeft_of_stopped hrun, hm]
    exact Nat.lt_succ_self _
  rcases continueMeas_eq_next h with ⟨-, -, rfl⟩ | ⟨-, rfl, rfl⟩ | ⟨-, rfl, rfl⟩ | ⟨-, rfl, rfl⟩ |
    ⟨rfl, rfl⟩ | ⟨-, -, rfl⟩ | ⟨-, rfl, hn, rfl⟩
  · exact .inl rfl
  · exact leads .hs2 rfl
  · exact leads .hs3 rfl
  · exact leads .blo rfl
  · exact leads .bhi rfl
  · exact .inl rfl
  · refine .inr ⟨by rw [countBit_phase]; split <;> simp, ?_⟩
    rw [stepsLeft_countBit (by simpa using hrun) (by simpa using hn)]
    exact Nat.lt_succ_self _

/-- A step of a measuring phase ends the measurement or takes one from its polls. -/
theorem measureStep_doneOrFewerLeft {m : Meas} {c : Clock} {s t : State}
    (h : measureStep m c s = .next t) (hm : s.phase = .measure m)
    (hwidth : timeoutOf s.cfg m + 1 < 2 ^ s.cfg.tw) :
    doneOrFewerLeft (s.usCount + 1) (stepsLeft s.usCount s) t := by
  have hleft : stepsLeft s.usCount s =
      pollsLeft m s.usCount s + stepsAfter s.cfg s.bitIdx.toNat m := by simp only [stepsLeft, hm]
  have hpos := pollsLeft_pos m s.usCount s
  unfold measureStep at h
  split at h
  · rename_i u r hu
    obtain ⟨hcfg, hbits, -⟩ := ptStep_keeps_cfg_bitIdx_phase hu
    rw [hleft, ← hcfg, ← hbits]
    exact (continueMeas_doneOrFewerLeft h (ptRun_of_ptStep_result hu) _).mono (by omega)
  · rename_i u hu
    cases h
    obtain ⟨hcfg, hbits, hphase⟩ := ptStep_keeps_cfg_bitIdx_phase hu
    refine .inr ⟨by simp [hphase, hm], ?_⟩
    have hfewer := pollsLeft_of_goes_on hu hwidth
    simp only [stepsLeft, hphase, hm, hcfg, hbits]
    omega

/-- Every controller step ends the read or leaves fewer steps, if the sleep driver answers and no timeout
reaches the counter's range. -/
theorem controllerStep_doneOrFewerLeft {c : Clock} {s t : State} (h : controllerStep c s = .next t)
    (hflight : s.phase ≠ .idle) (hsleep : c.slpDone = true)
    (hwidth : ∀ m, timeoutOf s.cfg m + 1 < 2 ^ s.cfg.tw) :
    doneOrFewerLeft (s.usCount + 1) (stepsLeft s.usCount s) t := by
  rcases controllerStep_cases h with ⟨hp, -⟩ | ⟨hp, rfl⟩ | ⟨hp, rfl⟩ | ⟨m, hm, hstep⟩ | ⟨-, rfl⟩
  · exact absurd hp hflight
  · exact .inr ⟨by simp, by simp [stepsLeft, hp]⟩
  · rw [reqWaitStep, if_pos hsleep]
    have hpolls := pollsLeft_le .hs1 (s.usCount + 1)
      (goto (.measure .hs1) (stopTimer (drive .inPu .low (endSleep s))))
    exact .inr ⟨by simp, by simpa [stepsLeft, hp, Nat.lt_succ_iff, timeoutOf] using hpolls⟩
  · exact measureStep_doneOrFewerLeft hstep hm (hwidth m)
  · rcases chkStep_cases s with ⟨-, e⟩ | ⟨-, e⟩ <;> rw [e] <;> exact .inl rfl

/-! A dense clock, and a run of them. -/

theorem Clock.isDense_iff (c : Clock) :
    c.isDense = true ↔ c.rst = false ∧ c.ctl = true ∧ c.elapsed = 1 ∧ c.slpDone = true := by
  simp [Clock.isDense, and_assoc]

/-- With a read in flight, the start of a clock and the host's step move the count on and change nothing
else that the controller or the measure of the read sees. -/
theorem hostStep_begun_busy {c : Clock} {s t : State} {cs : List Clock} (hbusy : s.status.busy = true)
    (h : hostStep c (beginClock c { s with clocks := cs }) = .next t) :
    t.phase = s.phase ∧ t.cfg = s.cfg ∧ t.clocks = cs ∧ t.usCount = s.usCount + c.elapsed ∧
      ∀ now, stepsLeft now t = stepsLeft now s := by
  obtain ⟨r, sc, rfl⟩ := hostStep_busy h hbusy
  exact ⟨rfl, rfl, rfl, rfl, fun _ => rfl⟩

/-- One dense clock of a read in flight uses up its record and ends the read or leaves fewer steps. -/
theorem dense_step {s t : State} {c : Clock} {cs : List Clock} (hcs : s.clocks = c :: cs)
    (hdense : c.isDense = true) (hbusy : s.status.busy = true) (hflight : s.phase ≠ .idle)
    (hwidth : ∀ m, timeoutOf s.cfg m + 1 < 2 ^ s.cfg.tw) (h : step s = .next t) :
    t.clocks = cs ∧ t.cfg = s.cfg ∧
      doneOrFewerLeft (t.usCount + 1) (stepsLeft (s.usCount + 1) s) t := by
  obtain ⟨hrst, hctl, helapsed, hsleep⟩ := c.isDense_iff.1 hdense
  rw [step_of_cons hcs, runClock, if_neg (by simp [hrst])] at h
  obtain ⟨u, hhost, hturn⟩ := andThen_eq_next.1 h
  obtain ⟨hphase, hcfg, hclocks, hcount, hleft⟩ := hostStep_begun_busy hbusy hhost
  obtain ⟨hcfg', hcount', hclocks', -⟩ := controllerTurn_frame hturn
  rw [controllerTurn, if_pos ⟨hctl, hphase ▸ hflight⟩] at hturn
  have hstep := controllerStep_doneOrFewerLeft hturn (hphase ▸ hflight) hsleep (hcfg ▸ hwidth)
  rw [helapsed] at hcount
  rw [← hcount', hleft, hcount'.trans hcount] at hstep
  rw [hcount'.trans hcount]
  exact ⟨hclocks'.trans hclocks, hcfg'.trans hcfg, hstep⟩

/-- A read in flight with at most `n` steps left completes within `n` dense clocks. -/
theorem dense_run_completes (n : Nat) {s : State} (hi : s.Inv) (hflight : s.phase ≠ .idle)
    (hwidth : ∀ m, timeoutOf s.cfg m + 1 < 2 ^ s.cfg.tw) (hlen : n ≤ s.clocks.length)
    (hdense : ∀ c ∈ s.clocks, c.isDense = true) (hleft : stepsLeft (s.usCount + 1) s ≤ n) :
    ∃ k t, 1 ≤ k ∧ k ≤ n ∧ runSteps k s = .next t ∧ t.doneStb = true := by
  induction n generalizing s with
  | zero => exact absurd (stepsLeft_pos hflight _) hleft.not_gt
  | succ n ih =>
    obtain ⟨c, cs, hcs⟩ := List.exists_cons_of_length_pos (Nat.succ_pos n |>.trans_le hlen)
    obtain ⟨t, ht⟩ := hi.step_goesOn
    obtain ⟨hclocks, hcfg, hdone | ⟨hflight', hfewer⟩⟩ :=
      dense_step hcs (hdense c (by simp [hcs])) (hi.busy.2 hflight) hflight hwidth ht
    · exact ⟨1, t, le_rfl, by omega, runSteps_of_step ht, hdone⟩
    · obtain ⟨k, u, hk, hkn, hrun, hdone⟩ := ih (step_keeps_inv hi ht) hflight' (hcfg ▸ hwidth)
        (by simpa [hcs, hclocks] using hlen)
        (fun d hd => hdense d (by rw [hcs]; exact List.mem_cons_of_mem c (hclocks ▸ hd)))
        (by omega)
      exact ⟨k + 1, u, by omega, by omega, (runSteps_of_step ht).trans hrun, hdone⟩

theorem stepsAfterBit_le (c : Config) (n : Nat) :
    stepsAfterBit c n ≤ 39 * ((c.tBlo + 2) + (c.tBhi + 2)) + 1 :=
  Nat.succ_le_succ (Nat.mul_le_mul_right _ (Nat.sub_le 39 n))

/-- No read has more steps left than the bound says. -/
theorem stepsLeft_le_readBound (now : Nat) (s : State) : stepsLeft now s ≤ readBound s.cfg := by
  have hbits := stepsAfterBit_le s.cfg s.bitIdx.toNat
  unfold stepsLeft readBound
  rw [nBits_eq]
  cases s.phase with
  | measure m =>
    have hpolls := pollsLeft_le m now s
    cases m <;> simp only [timeoutOf, stepsAfter] at hpolls ⊢ <;> omega
  | _ => simp only [stepsAfter]; omega

/-- Settles O58: `stepsLeft` starts at no more than `readBound`, and every dense clock lowers it. -/
theorem denselyPolledReadCompletes : Obligations.DenselyPolledReadCompletes := by
  intro s hi hbusy hwidth hlen hdense
  exact dense_run_completes _ hi (hi.busy.1 hbusy) hwidth hlen hdense (stepsLeft_le_readBound _ s)

end Sys2Proof.Machine
end

section
/-! PROOF. The read sequencer's steps: the start of a read, the request, the continuations of the
measurements, and the pin (R130 to R137, R140, R141). -/

namespace Sys2Proof.Machine

open Sys2Proof

/-! The start of a read (R130). -/

theorem exec_read_of_busy {s : State} (h : s.status.busy = true) :
    exec .read s = .next (respond true rejBusy s) := by
  simp [exec, execRead, h]

theorem exec_read_of_free {s : State} (h : s.status.busy = false) :
    exec .read s = .next (respond false 0#32 (startRead s)) := by
  simp [exec, execRead, h]

/-- Settles O20. -/
theorem readStartsOrIsRejected : Obligations.ReadStartsOrIsRejected :=
  fun _ => ⟨exec_read_of_busy, exec_read_of_free⟩

/-! The request (R131, R132). -/

theorem controllerStep_of_req {s : State} (h : s.phase = .req) (c : Clock) :
    controllerStep c s = .next (reqStep s) := by
  simp [controllerStep, h]

theorem controllerStep_of_reqWait {s : State} (h : s.phase = .reqWait) (c : Clock) :
    controllerStep c s = .next (reqWaitStep c s) := by
  simp [controllerStep, h]

theorem controllerStep_of_chk {s : State} (h : s.phase = .chk) (c : Clock) :
    controllerStep c s = .next (chkStep s) := by
  simp [controllerStep, h]

/-- Settles O25. -/
theorem reqStepDrivesLowAndAsksForSleep : Obligations.ReqStepDrivesLowAndAsksForSleep :=
  fun _ c h => controllerStep_of_req h c

/-- Settles O26: the sleep driver has answered, or it has not. -/
theorem reqWaitReleasesThePinWhenSlept : Obligations.ReqWaitReleasesThePinWhenSlept := by
  intro s c h
  rw [controllerStep_of_reqWait h]
  rcases reqWaitStep_cases c s with ⟨hslept, e⟩ | ⟨hasleep, e⟩
  · rw [e, if_pos hslept]; rfl
  · rw [e, if_neg (by simp [hasleep])]

/-! The continuations (R133 to R137). -/

theorem continueHandshake_of_ne_zero {r : Nat} (hr : r ≠ 0) (next : Meas) (s : State) :
    continueHandshake next r s = goto (.measure next) s :=
  if_neg hr

/-- The three handshake phases, each with the phase that follows it (R133 to R135). -/
theorem continueMeas_of_handshake {m n : Meas}
    (h : (m, n) ∈ [(Meas.hs1, Meas.hs2), (Meas.hs2, Meas.hs3), (Meas.hs3, Meas.blo)])
    (r : Nat) (s : State) : continueMeas m r s = .next (continueHandshake n r s) := by
  simp only [List.mem_cons, Prod.mk.injEq, List.not_mem_nil, or_false] at h
  rcases h with ⟨rfl, rfl⟩ | ⟨rfl, rfl⟩ | ⟨rfl, rfl⟩ <;> rfl

/-- Settles O35: the result is 0, or it is not. -/
theorem handshakeContinuations : Obligations.HandshakeContinuations := by
  intro s r m n h
  rw [continueMeas_of_handshake h]
  by_cases hr : r = 0
  · subst hr; rfl
  · rw [continueHandshake_of_ne_zero hr, if_neg hr]; rfl

/-- Settles O36. -/
theorem markerResultIsDiscarded : Obligations.MarkerResultIsDiscarded := fun _ _ => rfl

theorem continueMeas_bhi_zero (s : State) : continueMeas .bhi 0 s = .next (raiseFail .timeout s) := rfl

theorem continueMeas_bhi_of_ne_zero {r : Nat} (hr : r ≠ 0) (s : State) :
    continueMeas .bhi r s = assembleBit (decide (s.cfg.tBit1 < r)) s :=
  if_neg hr

/-! The frame assembler on one bit (R137). -/

/-- The frame after the bit number `n`, counted from 0: shifted into byte `n // 8`. -/
def Frame.shiftIn (f : Frame) (n : Nat) (bit : Bool) : Frame :=
  f.set (n / 8) (BitVec.ofNat 8 (shiftedIn (f.get (n / 8)) bit))

theorem Frame.get_shiftIn_same (f : Frame) {n : Nat} (hn : n < 40) (bit : Bool) :
    (f.shiftIn n bit).get (n / 8) = BitVec.ofNat 8 (shiftedIn (f.get (n / 8)) bit) :=
  Frame.get_set_same f _ (by omega)

theorem Frame.get_shiftIn_other (f : Frame) {n j : Nat} (hn : n < 40) (hj : j < 5) (hne : j ≠ n / 8)
    (bit : Bool) : (f.shiftIn n bit).get j = f.get j :=
  Frame.get_set_other f _ (by omega) hj hne

/-- A bit whose byte exists, in one update of the state. -/
theorem assembleBit_eq_shiftIn {s : State} (h : s.bitIdx.toNat < 40) (bit : Bool) :
    assembleBit bit s = .next (goto (if s.bitIdx.toNat + 1 = 40 then .chk else .measure .blo)
      { s with frame := s.frame.shiftIn s.bitIdx.toNat bit, bitIdx := s.bitIdx + 1#6 }) :=
  assembleBit_of_lt h

/-- `((FRAME[j] << 1) + bit) mod 256`, as a shift of the byte. -/
theorem ofNat_shiftedIn (b : Byte) (bit : Bool) :
    BitVec.ofNat 8 (shiftedIn b bit) = (b <<< 1) + if bit then 1#8 else 0#8 := by
  apply BitVec.eq_of_toNat_eq
  cases bit <;> simp [shiftedIn, Nat.shiftLeft_eq]

theorem bitIdx_eq_last_iff (b : BitVec 6) : b = 39#6 ↔ b.toNat + 1 = 40 := by
  rw [← BitVec.toNat_inj]; simp

/-- Settles O37: a stall, a bit whose byte exists, and a bit whose byte does not. -/
theorem bitIsShiftedIntoTheFrame : Obligations.BitIsShiftedIntoTheFrame := by
  refine fun s r => ⟨?_, fun hr hlt => ?_, fun hr hge => ?_⟩
  · rintro rfl
    exact continueMeas_bhi_zero s
  · refine ⟨s.frame.shiftIn s.bitIdx.toNat (decide (s.cfg.tBit1 < r)), ?_, ?_, fun j hj hne =>
      s.frame.get_shiftIn_other hlt hj hne _⟩
    · rw [continueMeas_bhi_of_ne_zero hr, assembleBit_eq_shiftIn hlt]
      simp only [bitIdx_eq_last_iff]
      rfl
    · simp [Frame.get_shiftIn_same _ hlt, ofNat_shiftedIn]
  · rw [continueMeas_bhi_of_ne_zero hr, assembleBit_of_ge hge]

/-! An absent sensor (R141). -/

theorem bitsAgree_handshake {m : Meas} {n : Nat} (h : bitsAgree (.measure m) n)
    (hm : m = .hs1 ∨ m = .hs2 ∨ m = .hs3) : n = 0 := by
  rcases hm with rfl | rfl | rfl <;> exact h

/-- A continuation that gives a completion event `NoReply` is a failed handshake: any other leads on
without an event, or ends in `Timeout`. -/
theorem continueMeas_noReply {m : Meas} {r : Nat} {s t : State} (h : continueMeas m r s = .next t)
    (hstb : s.doneStb = false) (hdone : t.doneStb = true) (hcode : t.doneCode = .noReply) :
    (m = .hs1 ∨ m = .hs2 ∨ m = .hs3) ∧ t = raiseFail .noReply s := by
  rcases continueMeas_eq_next h with ⟨-, hm, rfl⟩ | ⟨-, -, rfl⟩ | ⟨-, -, rfl⟩ | ⟨-, -, rfl⟩ |
    ⟨-, rfl⟩ | ⟨-, -, rfl⟩ | ⟨-, -, -, rfl⟩
  · exact ⟨hm, rfl⟩
  all_goals simp [hstb] at hdone hcode

/-- A step of a measuring phase that gives the completion event `NoReply` is a failed handshake, and
leaves the bit count and the frame alone. -/
theorem measureStep_noReply {m : Meas} {c : Clock} {s t : State} (h : measureStep m c s = .next t)
    (hstb : s.doneStb = false) (hdone : t.doneStb = true) (hcode : t.doneCode = .noReply) :
    (m = .hs1 ∨ m = .hs2 ∨ m = .hs3) ∧ t.bitIdx = s.bitIdx ∧ t.frame = s.frame := by
  have stopped {r : Nat} (h : continueMeas m r (stopTimer s) = .next t) :
      (m = .hs1 ∨ m = .hs2 ∨ m = .hs3) ∧ t.bitIdx = s.bitIdx ∧ t.frame = s.frame := by
    obtain ⟨hm, rfl⟩ := continueMeas_noReply h hstb hdone hcode
    exact ⟨hm, rfl, rfl⟩
  rcases measureStep_cases m c s with ⟨-, -, e⟩ | ⟨-, -, e⟩ | ⟨-, -, -, e⟩ | ⟨-, -, -, e⟩ |
    ⟨-, -, e⟩ <;> rw [e] at h
  · cases h; simp [hstb] at hdone
  · obtain ⟨hm, rfl⟩ := continueMeas_noReply h hstb hdone hcode
    exact ⟨hm, rfl, rfl⟩
  · cases h; simp [hstb] at hdone
  · exact stopped h
  · exact stopped h

/-- Settles O43: the start of `HS1` off its level, and the one way to a `NoReply`. -/
theorem absentFirstHighIsNoReply : Obligations.AbsentFirstHighIsNoReply := by
  refine ⟨fun s c hm hrun hpin => ?_, fun s t c hi hstb h hdone hcode => ?_⟩
  · rw [measurementStart s c .hs1 hm hrun, if_neg (by simp [hpin, targetLevel])]
    rfl
  · rcases controllerStep_cases h with ⟨-, rfl⟩ | ⟨-, rfl⟩ | ⟨-, rfl⟩ | ⟨m, hm, hstep⟩ | ⟨-, rfl⟩
    · simp [hstb] at hdone
    · simp [hstb] at hdone
    · rcases reqWaitStep_cases c s with ⟨-, e⟩ | ⟨-, e⟩ <;> simp [e, hstb] at hdone
    · obtain ⟨hhandshake, hbits, hframe⟩ := measureStep_noReply hstep hstb hdone hcode
      have hnone : s.bitIdx.toNat = 0 := bitsAgree_handshake (hm ▸ hi.bits) hhandshake
      exact ⟨hbits.trans (BitVec.eq_of_toNat_eq hnone), hframe⟩
    · rcases chkStep_cases s with ⟨-, e⟩ | ⟨-, e⟩ <;> simp [e, acceptFrame] at hcode

/-! The pin (R140). -/

/-- What the controller's step does to the pin: nothing, or the request drives it, or the end of the
sleep releases it. -/
theorem controllerStep_pin {c : Clock} {s t : State} (h : controllerStep c s = .next t) :
    (t.pinDir = s.pinDir ∧ t.pinOut = s.pinOut) ∨
    (s.phase = .req ∧ t.phase = .reqWait ∧ t.pinDir = .out ∧ t.pinOut = .low) ∨
    (s.phase = .reqWait ∧ c.slpDone = true ∧ t.phase = .measure .hs1 ∧ t.pinDir = .inPu ∧
      t.pinOut = .low) := by
  rcases controllerStep_cases h with ⟨-, rfl⟩ | ⟨hp, rfl⟩ | ⟨hp, rfl⟩ | ⟨m, -, hstep⟩ | ⟨-, rfl⟩
  · exact .inl ⟨rfl, rfl⟩
  · exact .inr (.inl ⟨hp, rfl, rfl, rfl⟩)
  · rcases reqWaitStep_cases c s with ⟨hslept, e⟩ | ⟨-, e⟩ <;> rw [e]
    · exact .inr (.inr ⟨hp, hslept, rfl, rfl, rfl⟩)
    · exact .inl ⟨rfl, rfl⟩
  · obtain ⟨-, -, -, -, -, -, -, -, -, -, hdir, hout, -⟩ := measureStep_frame hstep
    exact .inl ⟨hdir, hout⟩
  · rcases chkStep_cases s with ⟨-, e⟩ | ⟨-, e⟩ <;> rw [e] <;> exact .inl ⟨rfl, rfl⟩

/-- The phase after a host step: the one before, or `REQ` by an accepted `READ`. -/
theorem hostStep_phase {c : Clock} {s t : State} (h : hostStep c s = .next t) :
    t.phase = s.phase ∨
    (portCommand c s = some 0x02#8 ∧ s.status.busy = false ∧ t.phase = .req) := by
  rcases hostStep_eq_next h with ⟨-, rfl⟩ | ⟨e, d, sc, rfl, -⟩ | ⟨hport, hfree, sc, rfl⟩
  · exact .inl rfl
  · exact .inl rfl
  · exact .inr ⟨hport, hfree, rfl⟩

theorem State.Inv.idle_of_free {s : State} (hi : s.Inv) (hfree : s.status.busy = false) :
    s.phase = .idle := by
  by_contra hp
  simp [hi.busy.2 hp] at hfree

/-- Settles O53: the host's step leaves the pin alone, and the controller's takes the phase the clock
began in, or the `REQ` of a `READ` in this clock. -/
theorem pinIsDrivenOnlyDuringTheRequest : Obligations.PinIsDrivenOnlyDuringTheRequest := by
  intro s t hi h hrst
  rcases step_eq_next h with ⟨hreset, -⟩ | ⟨-, u, hhost, hturn⟩
  · simp [hrst] at hreset
  have hphase := hostStep_phase hhost
  simp only [beginClock_phase, takeClock_phase, portCommand_beginClock, portCommand_takeClock,
    beginClock_status, takeClock_status] at hphase
  obtain ⟨-, -, -, -, -, -, -, -, hdir, hout, -⟩ := hostStep_frame hhost
  simp only [beginClock_pinDir, takeClock_pinDir, beginClock_pinOut, takeClock_pinOut] at hdir hout
  rcases controllerTurn_eq_next hturn with ⟨-, rfl⟩ | ⟨-, -, hstep⟩
  · exact .inl ⟨hdir, hout⟩
  rcases controllerStep_pin hstep with ⟨hdir', hout'⟩ | ⟨hreq, hdriven⟩ | ⟨hwait, hreleased⟩
  · exact .inl ⟨hdir'.trans hdir, hout'.trans hout⟩
  · refine .inr (.inl ⟨?_, hdriven⟩)
    rcases hphase with hsame | ⟨hport, hfree, -⟩
    · exact .inl (hsame.symm.trans hreq)
    · exact .inr ⟨hi.idle_of_free hfree, hport⟩
  · refine .inr (.inr ⟨?_, hreleased⟩)
    rcases hphase with hsame | ⟨-, -, hreq⟩
    · exact hsame.symm.trans hwait
    · simp [hreq] at hwait

end Sys2Proof.Machine
end

section
/-! PROOF. Forty bits assemble the frame (R137, R138). The invariant `State.HasAssembled` says what is in
the frame after any number of bits. -/

namespace Sys2Proof.Machine

open Sys2Proof

/-! A byte of a list of bits. -/

theorem getD_append_bit (bits : List Bool) (b : Bool) (k : Nat) :
    ((bits ++ [b]).getD k false).toNat =
      (bits.getD k false).toNat + if k = bits.length then b.toNat else 0 := by
  rcases lt_trichotomy k bits.length with hlt | rfl | hgt
  · rw [List.getD_append _ _ _ _ hlt, if_neg hlt.ne, Nat.add_zero]
  · simp
  · rw [List.getD_eq_default _ _ (by simpa using hgt), List.getD_eq_default _ _ hgt.le,
      if_neg hgt.ne']
    rfl

theorem byteOfBits_eq_sum (bits : List Bool) (j : Nat) : byteOfBits bits j =
    ∑ i ∈ Finset.range 8, (bits.getD (8 * j + i) false).toNat * 2 ^ (7 - i) := rfl

@[simp] theorem byteOfBits_nil (j : Nat) : byteOfBits [] j = 0 := by
  simp [byteOfBits_eq_sum]

/-- A further bit counts in its own byte only, at its place from the top (R138). -/
theorem byteOfBits_append_bit (bits : List Bool) (b : Bool) (j : Nat) :
    byteOfBits (bits ++ [b]) j = byteOfBits bits j +
      if j = bits.length / 8 then b.toNat * 2 ^ (7 - bits.length % 8) else 0 := by
  have hsum : ∑ i ∈ Finset.range 8, (if 8 * j + i = bits.length then b.toNat else 0) * 2 ^ (7 - i) =
      if j = bits.length / 8 then b.toNat * 2 ^ (7 - bits.length % 8) else 0 := by
    split
    · rw [Finset.sum_eq_single (bits.length % 8)]
      · rw [if_pos (by omega)]
      · intro i _ hi
        rw [if_neg (by omega), Nat.zero_mul]
      · intro h
        exact absurd (Finset.mem_range.2 (Nat.mod_lt _ (by decide))) h
    · refine Finset.sum_eq_zero fun i hi => ?_
      have hlt := Finset.mem_range.1 hi
      rw [if_neg (by omega), Nat.zero_mul]
  simp only [byteOfBits_eq_sum, getD_append_bit, Nat.add_mul, Finset.sum_add_distrib, hsum]

/-! What the frame holds after some bits. -/

/-- The bits have been received, from a zeroed frame: they are counted, and byte `j`, moved up by the
places of the bits it still waits for, is their sum so far. The fortieth has led to `CHK`. -/
structure State.HasAssembled (s : State) (bits : List Bool) : Prop where
  count : s.bitIdx.toNat = bits.length
  holds : frameHolds s.frame bits.length
  bytes : ∀ j, j < 5 →
    (s.frame.get j).toNat * 2 ^ (8 - min 8 (bits.length - 8 * j)) = byteOfBits bits j
  complete : bits.length = 40 → s.phase = .chk

theorem hasAssembled_nil {s : State} (hidx : s.bitIdx = 0#6)
    (hzero : ∀ j, j < 5 → s.frame.get j = 0x00#8) : s.HasAssembled [] where
  count := by simp [hidx]
  holds := by
    intro j hj
    simp [hzero j hj]
  bytes := by
    intro j hj
    simp [hzero j hj]
  complete := by simp

/-- After all forty bits every byte is their sum. -/
theorem State.HasAssembled.get_toNat {s : State} {bits : List Bool} (h : s.HasAssembled bits)
    (hlen : bits.length = 40) {j : Nat} (hj : j < 5) : (s.frame.get j).toNat = byteOfBits bits j := by
  have hfull : 8 - min 8 (bits.length - 8 * j) = 0 := by omega
  simpa [hfull] using h.bytes j hj

/-- The byte that the bit number `n` goes into, moved up as before: it gains that bit at its place, for
no bit it held is lost. -/
theorem get_shiftIn_scaled {f : Frame} {n : Nat} (h : frameHolds f n) (hn : n < 40) (bit : Bool) :
    ((f.shiftIn n bit).get (n / 8)).toNat * 2 ^ (7 - n % 8) =
      (f.get (n / 8)).toNat * 2 ^ (8 - n % 8) + bit.toNat * 2 ^ (7 - n % 8) := by
  have hheld := h (n / 8) (show n / 8 < 5 by omega)
  rw [show min 8 (n - 8 * (n / 8)) = n % 8 by omega] at hheld
  have hfits : shiftedIn (f.get (n / 8)) bit < 2 ^ 8 :=
    (shiftedIn_lt hheld bit).trans_le (Nat.pow_le_pow_right (by decide) (by omega))
  rw [Frame.get_shiftIn_same f hn, BitVec.toNat_ofNat, Nat.mod_eq_of_lt hfits, shiftedIn,
    show 8 - n % 8 = 7 - n % 8 + 1 by omega, Nat.pow_succ]
  ring

/-- One bit more (R137). -/
theorem assembleBit_hasAssembled {s : State} {bits : List Bool} (h : s.HasAssembled bits)
    (hlen : bits.length < 40) (b : Bool) :
    ∃ t, assembleBit b s = .next t ∧ t.HasAssembled (bits ++ [b]) := by
  have hcount := h.count
  have hlen' : (bits ++ [b]).length = bits.length + 1 := by simp
  refine ⟨_, assembleBit_eq_shiftIn (hcount ▸ hlen) b, ?_, ?_, fun j hj => ?_, fun hfull => ?_⟩
  · rw [hlen', ← hcount]
    exact bitIdx_succ_toNat (hcount ▸ hlen)
  · rw [hlen', hcount]
    exact frameHolds_shiftedIn h.holds hlen b
  · show ((s.frame.shiftIn s.bitIdx.toNat b).get j).toNat * _ = _
    rw [hcount, hlen', byteOfBits_append_bit, ← h.bytes j hj]
    by_cases hbyte : j = bits.length / 8
    · subst hbyte
      rw [if_pos rfl, show 8 - min 8 (bits.length + 1 - 8 * (bits.length / 8)) =
        7 - bits.length % 8 by omega, show 8 - min 8 (bits.length - 8 * (bits.length / 8)) =
        8 - bits.length % 8 by omega]
      exact get_shiftIn_scaled h.holds hlen b
    · rw [if_neg hbyte, Frame.get_shiftIn_other _ hlen hj hbyte, Nat.add_zero]
      congr 2
      omega
  · rw [goto_phase, if_pos (by rw [hcount, ← hlen', hfull])]

/-- Any number of bits more, up to forty. -/
theorem assembleAll_hasAssembled (bs : List Bool) {s : State} {bits : List Bool}
    (h : s.HasAssembled bits) (hlen : bits.length + bs.length ≤ 40) :
    ∃ t, assembleAll bs s = .next t ∧ t.HasAssembled (bits ++ bs) := by
  induction bs generalizing s bits with
  | nil => exact ⟨s, rfl, by simpa using h⟩
  | cons b bs ih =>
    rw [List.length_cons] at hlen
    obtain ⟨u, hu, hone⟩ := assembleBit_hasAssembled h (by omega) b
    obtain ⟨t, ht, hall⟩ := ih hone (by simp; omega)
    exact ⟨t, by rw [assembleAll, hu, andThen_next, ht], by simpa using hall⟩

/-- Settles O57. -/
theorem fortyBitsAssembleTheFrame : Obligations.FortyBitsAssembleTheFrame := by
  intro s bits hlen hidx hzero
  obtain ⟨t, ht, hall⟩ :=
    assembleAll_hasAssembled bits (hasAssembled_nil hidx hzero) (by simp [hlen])
  exact ⟨t, ht, hall.complete hlen, BitVec.eq_of_toNat_eq (hall.count.trans hlen),
    fun j hj => hall.get_toNat hlen hj⟩

end Sys2Proof.Machine
end

section
/-! PROOF. A waveform is received and decided (R130, R138, R160, R170, R223). The clocks of a waveform
are taken pulse by pulse: `State.LeadsTo` says that a part of them leads from one state of the read to
the next, whatever the time and whatever comes after. -/

namespace Sys2Proof.Machine

open Sys2Proof

/-! A state of the read at a clock, and a clock in which only the controller moves. -/

/-- The state with the timer, the time and the inputs to come as given, in a clock that begins with no
completion event and no response. -/
def State.atClock (s : State) (running : Bool) (t0 now : Nat) (cs : List Clock) : State :=
  { s with ptRun := running, ptT0 := t0, usCount := now, clocks := cs, doneStb := false, rsp := none }

@[simp] theorem atClock_phase (s : State) (running : Bool) (t0 now : Nat) (cs : List Clock) :
    (s.atClock running t0 now cs).phase = s.phase := rfl

/-- A step does not see the completion event and the response of the clock before. -/
theorem step_atClock_self (s : State) :
    step (s.atClock s.ptRun s.ptT0 s.usCount s.clocks) = step s := by
  cases hcs : s.clocks with
  | nil => simp [step, State.nextClock, takeClock, beginClock, State.atClock, hcs]
  | cons c cs => rw [step_of_cons hcs, step_of_cons (c := c) (cs := cs) rfl]; rfl

/-- A clock in which only the controller moves is its step. -/
theorem step_sensorClock {s : State} {lv : Level} {d : Nat} {slept : Bool} {cs : List Clock}
    (hflight : s.phase ≠ .idle) (running : Bool) (t0 now : Nat) :
    step (s.atClock running t0 now (sensorClock lv d slept :: cs)) =
      controllerStep (sensorClock lv d slept) (s.atClock running t0 (now + d) cs) := by
  rw [step_of_no_command rfl rfl]
  exact if_pos ⟨rfl, hflight⟩

theorem runSteps_one (s : State) : runSteps 1 s = step s := andThen_next_right (step s)

/-- The clocks lead from the one state of the read to the other, with the timer at rest before and after,
whatever the timer's last start, the time and the inputs that follow. -/
def State.LeadsTo (s : State) (cs : List Clock) (t : State) : Prop :=
  ∀ (t0 now : Nat) (rest : List Clock), ∃ t0' now' : Nat,
    runSteps cs.length (s.atClock false t0 now (cs ++ rest)) = .next (t.atClock false t0' now' rest)

theorem State.LeadsTo.refl (s : State) : s.LeadsTo [] s := fun t0 now _ => ⟨t0, now, rfl⟩

theorem State.LeadsTo.trans {s t u : State} {cs cs' : List Clock} (h : s.LeadsTo cs t)
    (h' : t.LeadsTo cs' u) : s.LeadsTo (cs ++ cs') u := by
  intro t0 now rest
  obtain ⟨t1, now1, hst⟩ := h t0 now (cs' ++ rest)
  obtain ⟨t2, now2, htu⟩ := h' t1 now1 rest
  exact ⟨t2, now2, by rw [List.length_append, List.append_assoc, runSteps_trans hst, htu]⟩

/-- One clock leads to what the controller's step leaves. -/
theorem leadsTo_of_controllerStep {s t : State} {lv : Level} {d : Nat} {slept : Bool}
    (hflight : s.phase ≠ .idle)
    (h : ∀ t0 now cs, controllerStep (sensorClock lv d slept) (s.atClock false t0 now cs) =
      .next (t.atClock false t0 now cs)) :
    s.LeadsTo [sensorClock lv d slept] t := by
  intro t0 now rest
  exact ⟨t0, now + d, by
    rw [List.length_singleton, runSteps_one, List.singleton_append, step_sensorClock hflight, h]⟩

/-! The request (R131, R132). -/

theorem req_leadsTo {s : State} (h : s.phase = .req) :
    s.LeadsTo [sensorClock .high 0 false] (reqStep s) :=
  leadsTo_of_controllerStep (by simp [h]) fun t0 now cs =>
    controllerStep_of_req (s := s.atClock false t0 now cs) h _

theorem waits_leadTo {s : State} (h : s.phase = .reqWait) (waits : List Nat) :
    s.LeadsTo (waits.map fun d => sensorClock .low d false) s := by
  induction waits with
  | nil => exact .refl s
  | cons d waits ih =>
    have hwait : s.LeadsTo [sensorClock .low d false] s :=
      leadsTo_of_controllerStep (by simp [h]) fun t0 now cs =>
        controllerStep_of_reqWait (s := s.atClock false t0 now cs) h _
    exact hwait.trans ih

/-- What the end of the sleep leaves (R132). -/
def releasePin (s : State) : State := goto (.measure .hs1) (stopTimer (drive .inPu .low (endSleep s)))

theorem release_leadsTo {s : State} (h : s.phase = .reqWait) :
    s.LeadsTo [sensorClock .low 0 true] (releasePin s) :=
  leadsTo_of_controllerStep (by simp [h]) fun t0 now cs =>
    controllerStep_of_reqWait (s := s.atClock false t0 now cs) h _

/-! A pulse (R100 to R102, R105). -/

theorem opposite_ne (lv : Level) : opposite lv ≠ lv := by cases lv <;> decide

theorem Pulse.measurable_iff (c : Config) (m : Meas) (p : Pulse) :
    p.measurable c m = true ↔ p.polls.sum ≤ timeoutOf c m ∧ p.width < 2 ^ c.tw := by
  simp [Pulse.measurable]

/-- The three cases of a poll, with the elapsed time as the timer computes it (R102). -/
theorem controllerStep_of_running {s : State} {m : Meas} {e : Nat} (hm : s.phase = .measure m)
    (hrun : s.ptRun = true) (he : elapsedTime s.cfg.tw (sampleTime s) s.ptT0 = e) (c : Clock) :
    controllerStep c s =
      if c.pinIn ≠ targetLevel m then continueMeas m e (stopTimer s)
      else if timeoutOf s.cfg m < e then continueMeas m 0 (stopTimer s)
      else .next s := by
  refine measurementPoll s c m e hm hrun ?_
  rw [← he]
  exact Int.toNat_of_nonneg (Int.emod_nonneg _ (by positivity))

/-- A poll that finds the level gone ends the measurement with the elapsed time. -/
theorem step_lastPoll {s : State} {m : Meas} {t0 now e : Nat} (hm : s.phase = .measure m) (d : Nat)
    (he : elapsedTime s.cfg.tw ((now + d) % 2 ^ s.cfg.tw) t0 = e) (cs : List Clock) :
    step (s.atClock true t0 now (sensorClock (opposite (targetLevel m)) d false :: cs)) =
      continueMeas m e (s.atClock false t0 (now + d) cs) := by
  rw [step_sensorClock (by simp [hm]), controllerStep_of_running (by simpa using hm) rfl he]
  exact if_pos (opposite_ne _)

/-- A poll that finds the level, within the timeout, changes nothing. -/
theorem step_poll {s : State} {m : Meas} {t0 now e : Nat} (hm : s.phase = .measure m) (d : Nat)
    (he : elapsedTime s.cfg.tw ((now + d) % 2 ^ s.cfg.tw) t0 = e) (hle : e ≤ timeoutOf s.cfg m)
    (cs : List Clock) :
    step (s.atClock true t0 now (sensorClock (targetLevel m) d false :: cs)) =
      .next (s.atClock true t0 (now + d) cs) := by
  rw [step_sensorClock (by simp [hm]), controllerStep_of_running (by simpa using hm) rfl he]
  exact (if_neg (not_not.2 rfl)).trans (if_neg hle.not_gt)

/-- A measurement that starts at the level runs the timer from the present time. -/
theorem step_pulseStart {s : State} {m : Meas} {t0 now : Nat} (hm : s.phase = .measure m) (d : Nat)
    (cs : List Clock) :
    step (s.atClock false t0 now (sensorClock (targetLevel m) d false :: cs)) =
      .next (s.atClock true ((now + d) % 2 ^ s.cfg.tw) (now + d) cs) := by
  rw [step_sensorClock (by simp [hm]), measurementStart _ _ m (by simpa using hm) rfl]
  exact if_pos rfl

/-- Polls that find the level, none after the timeout, and a last one that finds it gone: the result is
the time elapsed before them and the time they took. -/
theorem runSteps_polls {s : State} {m : Meas} (hm : s.phase = .measure m) (t0 last : Nat)
    (rest : List Clock) (polls : List Nat) {now e : Nat}
    (he : elapsedTime s.cfg.tw (now % 2 ^ s.cfg.tw) t0 = e)
    (htimeout : e + polls.sum ≤ timeoutOf s.cfg m) (hwidth : e + (polls.sum + last) < 2 ^ s.cfg.tw) :
    ∃ now', runSteps (polls.length + 1) (s.atClock true t0 now
        (polls.map (fun d => sensorClock (targetLevel m) d false) ++
          sensorClock (opposite (targetLevel m)) last false :: rest)) =
      continueMeas m (e + (polls.sum + last)) (s.atClock false t0 now' rest) := by
  induction polls generalizing now e with
  | nil =>
    rw [List.sum_nil, Nat.zero_add] at hwidth ⊢
    refine ⟨now + last, (runSteps_one _).trans (step_lastPoll hm last ?_ rest)⟩
    rw [elapsedTime_add, he, Nat.mod_eq_of_lt hwidth]
  | cons d polls ih =>
    rw [List.sum_cons, Nat.add_assoc] at hwidth
    rw [List.sum_cons] at htimeout
    have hd : elapsedTime s.cfg.tw ((now + d) % 2 ^ s.cfg.tw) t0 = e + d := by
      rw [elapsedTime_add, he, Nat.mod_eq_of_lt (by omega)]
    obtain ⟨now', hrun⟩ := ih hd (by omega) (by omega)
    refine ⟨now', (runSteps_of_step (step_poll hm d hd (by omega) _)).trans (hrun.trans ?_)⟩
    rw [List.sum_cons, Nat.add_assoc, Nat.add_assoc]

/-- A pulse that can be measured hands its width to the phase's continuation. -/
theorem runSteps_pulse {s : State} {m : Meas} (hm : s.phase = .measure m) {p : Pulse}
    (hp : p.measurable s.cfg m = true) (t0 now : Nat) (rest : List Clock) :
    ∃ t0' now', runSteps (p.clocks m).length (s.atClock false t0 now (p.clocks m ++ rest)) =
      continueMeas m p.width (s.atClock false t0' now' rest) := by
  obtain ⟨htimeout, hwidth⟩ := (p.measurable_iff s.cfg m).1 hp
  obtain ⟨now', hrun⟩ := runSteps_polls hm ((now + p.gap) % 2 ^ s.cfg.tw) p.last rest p.polls
    (elapsedTime_self _ _) (by simpa using htimeout) (by simpa [Pulse.width] using hwidth)
  have hlen : (p.clocks m).length = p.polls.length + 1 + 1 := by simp [Pulse.clocks]
  have hclocks : p.clocks m ++ rest = sensorClock (targetLevel m) p.gap false ::
      (p.polls.map (fun d => sensorClock (targetLevel m) d false) ++
        sensorClock (opposite (targetLevel m)) p.last false :: rest) := by simp [Pulse.clocks]
  refine ⟨(now + p.gap) % 2 ^ s.cfg.tw, now', ?_⟩
  rw [hlen, hclocks, runSteps_of_step (step_pulseStart hm p.gap _), hrun, Nat.zero_add, Pulse.width]

/-- A continuation that does not end the read commutes with the timer, the time and the inputs. -/
theorem continueMeas_atClock {m : Meas} {r : Nat} {s t : State} (h : continueMeas m r s = .next t)
    (hr : r ≠ 0 ∨ m = .blo) (t0 now : Nat) (cs : List Clock) :
    continueMeas m r (s.atClock false t0 now cs) = .next (t.atClock false t0 now cs) := by
  cases m
  case blo => cases h; rfl
  case bhi =>
    have hr : r ≠ 0 := by simpa using hr
    rw [continueMeas_bhi_of_ne_zero hr] at h ⊢
    obtain ⟨hlt, rfl⟩ := assembleBit_eq_next h
    exact assembleBit_of_lt (s := s.atClock false t0 now cs) hlt
  all_goals
    have hr : r ≠ 0 := by simpa using hr
    simp only [continueMeas, continueHandshake_of_ne_zero hr] at h ⊢
    cases h; rfl

/-- A pulse that can be measured, with a result that does not end the read, leads to what the phase's
continuation leaves. -/
theorem pulse_leadsTo {s t : State} {m : Meas} (hm : s.phase = .measure m) {p : Pulse}
    (hp : p.measurable s.cfg m = true) (hwidth : p.width ≠ 0 ∨ m = .blo)
    (h : continueMeas m p.width s = .next t) : s.LeadsTo (p.clocks m) t := by
  intro t0 now rest
  obtain ⟨t0', now', hrun⟩ := runSteps_pulse hm hp t0 now rest
  exact ⟨t0', now', hrun.trans (continueMeas_atClock h hwidth t0' now' rest)⟩

/-- A handshake pulse leads to the next phase (R133 to R135). -/
theorem handshake_leadsTo {s : State} {m n : Meas} (hm : s.phase = .measure m)
    (hmn : (m, n) ∈ [(Meas.hs1, Meas.hs2), (Meas.hs2, Meas.hs3), (Meas.hs3, Meas.blo)]) {p : Pulse}
    (hp : p.measurable s.cfg m = true) (hwidth : p.width ≠ 0) :
    s.LeadsTo (p.clocks m) (goto (.measure n) s) :=
  pulse_leadsTo hm hp (.inl hwidth)
    (by rw [continueMeas_of_handshake hmn, continueHandshake_of_ne_zero hwidth])

/-! The bits (R79, R136, R137). -/

/-- A bit that can be received. -/
def BitPulse.receivable (c : Config) (b : BitPulse) : Bool :=
  b.marker.measurable c .blo && b.high.measurable c .bhi && decide (b.high.width ≠ 0)

/-- The bit as the classifier reads it (R108). -/
def BitPulse.bit (c : Config) (b : BitPulse) : Bool := decide (c.tBit1 < b.high.width)

/-- The phase plays no part in storing a bit. -/
theorem assembleBit_goto {bit : Bool} {s t : State} (h : assembleBit bit s = .next t) (p : Phase) :
    assembleBit bit (goto p s) = .next t := by
  obtain ⟨hlt, rfl⟩ := assembleBit_eq_next h
  exact assembleBit_of_lt (s := goto p s) hlt

/-- The marker and the high pulse of a bit lead to what the frame assembler leaves. -/
theorem bit_leadsTo {s t : State} (hm : s.phase = .measure .blo) {b : BitPulse}
    (hb : b.receivable s.cfg = true) (h : assembleBit (b.bit s.cfg) s = .next t) :
    s.LeadsTo b.clocks t := by
  simp only [BitPulse.receivable, Bool.and_eq_true, decide_eq_true_eq] at hb
  obtain ⟨⟨hmarker, hhigh⟩, hwidth⟩ := hb
  have hbhi : continueMeas .bhi b.high.width (goto (.measure .bhi) s) = .next t :=
    (continueMeas_bhi_of_ne_zero hwidth _).trans (assembleBit_goto h _)
  exact (pulse_leadsTo hm hmarker (.inr rfl) rfl).trans
    (pulse_leadsTo (goto_phase _ _) hhigh (.inl hwidth) hbhi)

/-- The bits of a waveform run through the frame assembler. -/
theorem bits_leadTo (bs : List BitPulse) {s t : State} (c : Config) (hc : s.cfg = c)
    (hbs : ∀ b ∈ bs, b.receivable c = true)
    (hroom : s.bitIdx.toNat + bs.length ≤ 40) (hm : bs ≠ [] → s.phase = .measure .blo)
    (h : assembleAll (bs.map (BitPulse.bit c)) s = .next t) :
    s.LeadsTo (bs.flatMap BitPulse.clocks) t := by
  induction bs generalizing s with
  | nil => cases h; exact .refl _
  | cons b bs ih =>
    obtain ⟨u, hu, ht⟩ := andThen_eq_next.1 h
    have hone := bit_leadsTo (hm (by simp)) (hc ▸ hbs b (by simp)) (hc ▸ hu)
    rw [List.length_cons] at hroom
    have hlt : s.bitIdx.toNat < 40 := by omega
    rw [assembleBit_eq_shiftIn hlt] at hu
    cases hu
    refine hone.trans (ih hc (fun b' hb' => hbs b' (by simp [hb'])) ?_ (fun hmore => ?_) ht)
    · show (s.bitIdx + 1#6).toNat + _ ≤ _
      rw [bitIdx_succ_toNat hlt]
      omega
    · have hleft := List.length_pos_of_ne_nil hmore
      exact if_neg (by omega)

/-- The frame assembler leaves the parameters and the Reading registers alone. -/
theorem assembleAll_frame (bits : List Bool) {s t : State} (h : assembleAll bits s = .next t) :
    t.cfg = s.cfg ∧ t.hum = s.hum ∧ t.tempc = s.tempc ∧ t.tempf = s.tempf ∧ t.tempk = s.tempk := by
  induction bits generalizing s with
  | nil => cases h; simp
  | cons b bits ih =>
    obtain ⟨u, hu, ht⟩ := andThen_eq_next.1 h
    obtain ⟨-, rfl⟩ := assembleBit_eq_next hu
    simpa using ih ht

/-! The decision (R160, R170, R223). -/

/-- Every decoded humidity fits `HUM` (R169). -/
theorem decodeFrame_hum_lt (v : Variant) (f : Frame) : (decodeFrame v f).1 < 2 ^ 16 := by
  have h0 := (f.get 0).isLt
  have h1 := (f.get 1).isLt
  cases v
  case A => simp only [decodeFrame, humA]; omega
  all_goals simp only [decodeFrame, humBC, fieldH]; omega

/-- A commit stores the decoded values exactly (R169, R170). -/
theorem acceptFrame_reading (s : State) :
    (acceptFrame s).hum.toNat = (decodeFrame s.cfg.variant s.frame).1 ∧
    (acceptFrame s).tempc.toInt = (decodeFrame s.cfg.variant s.frame).2 ∧
    derivedReading (acceptFrame s) := by
  obtain ⟨hlo, hhi⟩ := decodeFrame_temp_bounds s.cfg.variant s.frame
  exact ⟨Nat.mod_eq_of_lt (decodeFrame_hum_lt _ _), toInt_ofInt_16 hlo hhi,
    derivedReading_writeReading hlo hhi (decodeFrame s.cfg.variant s.frame).1 s⟩

/-- The `CHK` step ends the read, with the frame as it is. -/
theorem chkStep_ends (s : State) :
    (chkStep s).clocks = s.clocks ∧ (chkStep s).phase = .idle ∧ (chkStep s).doneStb = true ∧
    (chkStep s).frame = s.frame := by
  rcases chkStep_cases s with ⟨-, e⟩ | ⟨-, e⟩ <;> rw [e] <;> exact ⟨rfl, rfl, rfl, rfl⟩

/-- The `CHK` step decides the read by the sum in plain numbers. -/
theorem chkStep_decides (s : State) :
    if ((s.frame.get 0).toNat + (s.frame.get 1).toNat + (s.frame.get 2).toNat +
        (s.frame.get 3).toNat) % 256 = (s.frame.get 4).toNat
    then (chkStep s).status = ⟨.ok, false, true⟩ ∧ (chkStep s).doneCode = .ok ∧
      (chkStep s).hum.toNat = (decodeFrame s.cfg.variant s.frame).1 ∧
      (chkStep s).tempc.toInt = (decodeFrame s.cfg.variant s.frame).2 ∧ derivedReading (chkStep s)
    else (chkStep s).status = ⟨.checksumMismatch, false, true⟩ ∧
      (chkStep s).doneCode = .checksumMismatch ∧ (chkStep s).hum = s.hum ∧
      (chkStep s).tempc = s.tempc ∧ (chkStep s).tempf = s.tempf ∧ (chkStep s).tempk = s.tempk := by
  rcases chkStep_cases s with ⟨hsum, e⟩ | ⟨hsum, e⟩ <;> rw [e]
  · rw [if_pos ((checksumOk_iff _).1 hsum)]
    exact ⟨rfl, rfl, acceptFrame_reading s⟩
  · rw [if_neg (by rw [← checksumOk_iff, hsum]; decide)]
    exact ⟨rfl, rfl, rfl, rfl, rfl, rfl⟩

/-! The whole read. -/

/-- The clock of an accepted `READ`, and the clocks after it: the response is withdrawn before the next
clock. -/
theorem runSteps_read {s : State} {cs : List Clock} (hfree : s.status.busy = false)
    (hcs : s.clocks = commandClock (encode .read) :: cs) (k : Nat) :
    runSteps (k + 1 + 1) s = runSteps (k + 1) ((startRead s).atClock false s.ptT0 s.usCount cs) := by
  have hread : step s = .next (respond false 0#32
      (startRead (beginClock (commandClock (encode .read)) { s with clocks := cs }))) := by
    rw [step_of_cons hcs, runClock_commandClock, runCode_of_decode (decode_encode .read)]
    exact exec_read_of_free hfree
  rw [runSteps_of_step hread, runSteps_succ, runSteps_succ, ← step_atClock_self]
  rfl

/-- The clocks from an accepted `READ` to the first bit's marker. -/
def Waveform.handshakeClocks (w : Waveform) : List Clock :=
  [sensorClock .high 0 false] ++ (w.waits.map (fun d => sensorClock .low d false) ++
    ([sensorClock .low 0 true] ++
      (w.turnaround.clocks .hs1 ++ (w.hold.clocks .hs2 ++ w.presence.clocks .hs3))))

theorem Waveform.clocks_eq (w : Waveform) : w.clocks = commandClock (encode .read) ::
    (w.handshakeClocks ++ w.bits.flatMap BitPulse.clocks ++ [sensorClock .high 0 false]) := by
  simp [Waveform.clocks, Waveform.handshakeClocks]

theorem Waveform.carriesFrame_iff (c : Config) (w : Waveform) : w.carriesFrame c = true ↔
    (w.turnaround.measurable c .hs1 = true ∧ w.turnaround.width ≠ 0) ∧
    (w.hold.measurable c .hs2 = true ∧ w.hold.width ≠ 0) ∧
    (w.presence.measurable c .hs3 = true ∧ w.presence.width ≠ 0) ∧
    w.bits.length = Config.nBits ∧ ∀ b ∈ w.bits, b.receivable c = true := by
  simp only [Waveform.carriesFrame, BitPulse.receivable, Bool.and_eq_true, decide_eq_true_eq,
    List.all_eq_true, and_assoc]

/-- A read whose sensor has answered: no bit received yet, the first marker to be measured. -/
def readyForBits (s : State) : State := goto (.measure .blo) (releasePin (reqStep (startRead s)))

theorem handshake_leadsTo_bits {s : State} {w : Waveform} (h : w.carriesFrame s.cfg = true) :
    (startRead s).LeadsTo w.handshakeClocks (readyForBits s) := by
  obtain ⟨⟨hturn, hturn0⟩, ⟨hhold, hhold0⟩, ⟨hpres, hpres0⟩, -⟩ := (w.carriesFrame_iff _).1 h
  have hs1 : (releasePin (reqStep (startRead s))).LeadsTo _ _ :=
    handshake_leadsTo (n := .hs2) rfl (by simp) hturn hturn0
  have hs2 : (goto (.measure .hs2) (releasePin (reqStep (startRead s)))).LeadsTo _ _ :=
    handshake_leadsTo (n := .hs3) rfl (by simp) hhold hhold0
  have hs3 : (goto (.measure .hs3) (releasePin (reqStep (startRead s)))).LeadsTo _ _ :=
    handshake_leadsTo (n := .blo) rfl (by simp) hpres hpres0
  exact (req_leadsTo rfl).trans <| (waits_leadTo rfl w.waits).trans <|
    (release_leadsTo rfl).trans <| hs1.trans <| hs2.trans hs3

/-- The handshake and the forty bits lead to `CHK`, with the frame the bits spell and the parameters and
the Reading registers as they were (R138). -/
theorem startRead_leadsTo_chk {s : State} {w : Waveform} (h : w.carriesFrame s.cfg = true) :
    ∃ t, (startRead s).LeadsTo (w.handshakeClocks ++ w.bits.flatMap BitPulse.clocks) t ∧
      t.phase = .chk ∧ (∀ j, j < 5 → (t.frame.get j).toNat = byteOfBits (w.received s.cfg) j) ∧
      t.cfg = s.cfg ∧ t.hum = s.hum ∧ t.tempc = s.tempc ∧ t.tempf = s.tempf ∧ t.tempk = s.tempk := by
  obtain ⟨-, -, -, hlen, hbits⟩ := (w.carriesFrame_iff _).1 h
  obtain ⟨t, hall, hchk, -, hbytes⟩ := fortyBitsAssembleTheFrame (readyForBits s) (w.received s.cfg)
    (by simpa [Waveform.received] using hlen) rfl (fun j _ => Frame.get_zero j)
  have hroom : (0#6).toNat + w.bits.length ≤ 40 := by simp [hlen]
  exact ⟨t, (handshake_leadsTo_bits h).trans (bits_leadTo w.bits s.cfg rfl hbits hroom (fun _ => rfl) hall),
    hchk, hbytes, assembleAll_frame (s := readyForBits s) _ hall⟩

/-- Settles O59: `READ`, then what leads to `CHK`, then the clock of `CHK`. -/
theorem waveformIsReceivedAndDecided : Obligations.WaveformIsReceivedAndDecided := by
  intro s w rest hfree hcarries hclocks
  obtain ⟨t, hlead, hchk, hbytes, hcfg, hhum, htempc, htempf, htempk⟩ := startRead_leadsTo_chk hcarries
  obtain ⟨t0, now, hrun⟩ := hlead s.ptT0 s.usCount (sensorClock .high 0 false :: rest)
  have hlast : step (t.atClock false t0 now (sensorClock .high 0 false :: rest)) =
      .next (chkStep (t.atClock false t0 now rest)) := by
    rw [step_sensorClock (by simp [hchk]), controllerStep_of_chk (by simpa using hchk), Nat.add_zero]
  have hwhole : runSteps w.clocks.length s = .next (chkStep (t.atClock false t0 now rest)) := by
    rw [Waveform.clocks_eq, List.cons_append, List.append_assoc, List.singleton_append] at hclocks
    rw [Waveform.clocks_eq, List.length_cons, List.length_append, List.length_singleton,
      runSteps_read hfree hclocks, runSteps_trans hrun, runSteps_one, hlast]
  obtain ⟨hrest, hidle, hstb, hframe⟩ := chkStep_ends (t.atClock false t0 now rest)
  refine ⟨_, hwhole, hrest, hidle, hstb, ?_, ?_⟩
  · rw [hframe]
    exact hbytes
  · rw [hframe, ← hcfg, ← hhum, ← htempc, ← htempf, ← htempk]
    exact chkStep_decides (t.atClock false t0 now rest)

end Sys2Proof.Machine
end

section
/-! PROOF. The decision of the `CHK` step, and the decoder in plain numbers with its ranges (R160 to R171). -/

namespace Sys2Proof.Machine

open Sys2Proof

/-! The fields of a frame (R81, R82). -/

theorem signA_iff (f : Frame) : signA f = true ↔ 128 ≤ (f.get 3).toNat := by
  rw [signA, signBit_eq, decide_eq_true_iff]

theorem signBC_iff (f : Frame) : signBC f = true ↔ 128 ≤ (f.get 2).toNat := by
  rw [signBC, signBit_eq, decide_eq_true_iff]

theorem fieldT_eq (f : Frame) : fieldT f = (f.get 3).toNat % 128 := lowSeven_toNat _

theorem fieldM_eq (f : Frame) : fieldM f = (f.get 2).toNat % 128 * 2 ^ 8 + (f.get 3).toNat := by
  rw [fieldM, maskSeven_toNat]

/-! The decoder (R162 to R166). -/

/-- The low seven bits of byte 3 are the byte, less 128 when its top bit is set. -/
theorem tempA_eq (f : Frame) : tempA f =
    if 128 ≤ (f.get 3).toNat
    then -(10 * ((f.get 2).toNat : Int) + 10 - (((f.get 3).toNat : Int) - 128))
    else 10 * ((f.get 2).toNat : Int) + ((f.get 3).toNat : Int) := by
  have hbyte := (f.get 3).isLt
  simp only [tempA, signA_iff, fieldI, fieldT_eq]
  split <;> omega

/-- The magnitude is the big-endian word of bytes 2 and 3, less its top bit. -/
theorem tempBC_eq (f : Frame) : tempBC f =
    if 128 ≤ (f.get 2).toNat
    then -(256 * (((f.get 2).toNat : Int) - 128) + ((f.get 3).toNat : Int))
    else 256 * ((f.get 2).toNat : Int) + ((f.get 3).toNat : Int) := by
  have hbyte := (f.get 2).isLt
  simp only [tempBC, signBC_iff, fieldM_eq]
  split <;> omega

theorem humBC_eq (f : Frame) : humBC f = 256 * (f.get 0).toNat + (f.get 1).toNat := by
  unfold humBC fieldH
  omega

theorem decodeFrame_of_mem_BC {v : Variant} (hv : v ∈ [Variant.B, Variant.C]) (f : Frame) :
    decodeFrame v f = (humBC f, tempBC f) := by
  cases v with
  | A => simp at hv
  | B => rfl
  | C => rfl

/-- Settles O40. -/
theorem variantADecode : Obligations.VariantADecode :=
  fun f => congrArg (Prod.mk (humA f)) (tempA_eq f)

/-- Settles O41. -/
theorem variantsBAndCDecodeAlike : Obligations.VariantsBAndCDecodeAlike := by
  intro f v hv
  rw [decodeFrame_of_mem_BC hv, humBC_eq, tempBC_eq]

/-! The decision (R160, R161, R170). -/

/-- Settles O39: the checksum test in plain numbers, and the two outcomes of the `CHK` step. -/
theorem checksumDecidesTheRead : Obligations.ChecksumDecidesTheRead := by
  intro s c h
  rw [controllerStep_of_chk h]
  rcases chkStep_cases s with ⟨hsum, e⟩ | ⟨hsum, e⟩
  · rw [e, if_pos ((checksumOk_iff _).1 hsum)]
    rfl
  · rw [e, if_neg (by rw [← checksumOk_iff, hsum]; decide)]
    rfl

/-! The ranges (R169). -/

theorem humA_le (f : Frame) : humA f ≤ 2550 := by
  have hbyte := (f.get 0).isLt
  unfold humA
  omega

theorem tempA_bounds (f : Frame) : -2560 ≤ tempA f ∧ tempA f ≤ 2677 := by
  have hbyte2 := (f.get 2).isLt
  have hbyte3 := (f.get 3).isLt
  rw [tempA_eq]
  split <;> omega

theorem humBC_le (f : Frame) : humBC f ≤ 65535 := by
  have hbyte0 := (f.get 0).isLt
  have hbyte1 := (f.get 1).isLt
  rw [humBC_eq]
  omega

theorem tempBC_bounds (f : Frame) : -32767 ≤ tempBC f ∧ tempBC f ≤ 32767 := by
  have hbyte2 := (f.get 2).isLt
  have hbyte3 := (f.get 3).isLt
  rw [tempBC_eq]
  split <;> omega

/-- The conversion to Fahrenheit is increasing, so it carries the bounds of a temperature over (R167). -/
theorem fahr_mono : Monotone fahr := by
  intro m n h
  unfold fahr
  omega

/-- The conversion to kelvin is increasing, so it carries the bounds of a temperature over (R168). -/
theorem kelv_mono : Monotone kelv := by
  intro m n h
  unfold kelv
  omega

/-- Settles O42: the range of each variant, carried over by the monotone conversions, and the exact
registers of a commit. -/
theorem decodedValuesFitTheirRegisters : Obligations.DecodedValuesFitTheirRegisters := by
  refine ⟨fun f h n hdec => ?_, fun f v hv h n hdec => ?_, fun s h n hdec => ?_⟩
  · cases hdec
    obtain ⟨hlo, hhi⟩ := tempA_bounds f
    exact ⟨humA_le f, hlo, hhi, fahr_mono hlo, fahr_mono hhi, kelv_mono hlo, kelv_mono hhi⟩
  · rw [decodeFrame_of_mem_BC hv] at hdec
    cases hdec
    obtain ⟨hlo, hhi⟩ := tempBC_bounds f
    exact ⟨humBC_le f, hlo, hhi, fahr_mono hlo, fahr_mono hhi, kelv_mono hlo, kelv_mono hhi⟩
  · obtain ⟨hhum, htemp, hfahr, hkelv⟩ := acceptFrame_reading s
    rw [hdec] at hhum htemp
    rw [htemp] at hfahr hkelv
    exact ⟨hhum, htemp, hfahr, hkelv⟩

end Sys2Proof.Machine
end

section
/-! PROOF. The responses of the host commands in every state (R191 to R196), the rejection of the reserved
codes (R74, R197), and a command's place in its clock (R57, R58, R190). -/

namespace Sys2Proof.Machine

open Sys2Proof

/-! Responses. -/

/-- Settles O13. -/
theorem initRespondsAndChangesNothing : Obligations.InitRespondsAndChangesNothing := fun _ => rfl

/-- Settles O15: the model's `zext32` is the zero extension. -/
theorem getHumReturnsHumidity : Obligations.GetHumReturnsHumidity := fun _ => rfl

/-- Settles O16: the model's `sext32` is the sign extension. -/
theorem getTempcReturnsCelsius : Obligations.GetTempcReturnsCelsius := fun _ => rfl

/-- Settles O17. -/
theorem getTempfReturnsFahrenheit : Obligations.GetTempfReturnsFahrenheit := fun _ => rfl

/-- Settles O18. -/
theorem getTempkReturnsKelvin : Obligations.GetTempkReturnsKelvin := fun _ => rfl

/-- The `STATUS` word bit by bit: `CODE`, `BUSY`, `DONE`, and zero above (R76). -/
theorem statusWord_getLsbD (st : Status) (k : Nat) : (statusWord st).getLsbD k =
    if k < 2 then st.code.bits.getLsbD k else if k = 2 then st.busy else decide (k = 3) && st.done := by
  simp only [statusWord, zext32, BitVec.getLsbD_setWidth, BitVec.getLsbD_append, BitVec.getLsbD_ofBool]
  rcases k with _ | _ | _ | _ | k <;> simp

theorem statusWord_code (st : Status) : (statusWord st).extractLsb' 0 2 = st.code.bits := by
  apply BitVec.eq_of_getLsbD_eq
  intro k hk
  rw [BitVec.getLsbD_extractLsb', Nat.zero_add, statusWord_getLsbD, if_pos hk, decide_eq_true hk,
    Bool.true_and]

theorem statusWord_above (st : Status) : (statusWord st).extractLsb' 4 28 = 0#28 := by
  apply BitVec.eq_of_getLsbD_eq
  intro k hk
  rw [BitVec.getLsbD_extractLsb', statusWord_getLsbD, if_neg (by omega), if_neg (by omega)]
  simp; omega

/-- Settles O14, field by field of the `STATUS` word. -/
theorem getStatusReturnsTheStatusWord : Obligations.GetStatusReturnsTheStatusWord := by
  intro s
  refine ⟨statusWord s.status, rfl, ?_, statusWord_getLsbD _ 2, statusWord_getLsbD _ 3,
    statusWord_above _⟩
  rw [statusWord_code]
  cases s.status.code <;> rfl

/-! Reserved codes. -/

theorem runCode_of_reserved {code : Byte} (h : decode code = .error (.reserved code)) (s : State) :
    runCode code s = .next (respond true rejReserved s) := by
  simp [runCode, h, execReserved]

/-- The ranges of R74 hold no command's code. -/
theorem encode_not_in_reserved_ranges (i : Instr) :
    ¬ (encode i = 0x00#8 ∨ (0x03 ≤ (encode i).toNat ∧ (encode i).toNat ≤ 0x0F) ∨
      0x15 ≤ (encode i).toNat) := by
  cases i <;> decide

theorem decodeTableWord_eq_some_iff {n : Nat} {i : Instr} :
    decodeTableWord 8 n = some i ↔ n = (encode i).toNat := by
  constructor
  · intro h
    have hlt : n < 256 := by
      by_contra hge
      simp [decodeTableWord, hge] at h
    rw [← decode_eq_ok_iff.1 (decode_of_decodeTableWord h), BitVec.toNat_ofNat, Nat.mod_eq_of_lt hlt]
  · rintro rfl
    simp [decodeTableWord, decode_encode, (encode i).isLt]

/-- The words that decode are the seven commands' codes, each once. -/
theorem assignedWords_perm_codes : ((List.range 256).filter (fun n => (decodeTableWord 8 n).isSome)).Perm
    (allInstrs.map (fun i => (encode i).toNat)) := by
  have hcodes : (allInstrs.map (fun i => (encode i).toNat)).Nodup := by decide
  refine (List.perm_ext_iff_of_nodup (List.nodup_range.filter _) hcodes).2 fun n => ?_
  simp only [List.mem_filter, List.mem_range, Option.isSome_iff_exists, decodeTableWord_eq_some_iff,
    List.mem_map, mem_allInstrs, true_and]
  constructor
  · rintro ⟨-, i, rfl⟩
    exact ⟨i, rfl⟩
  · rintro ⟨i, rfl⟩
    exact ⟨(encode i).isLt, i, rfl⟩

/-- The reserved codes are the 256 codes less the seven commands' (R74). -/
theorem length_reservedWords :
    ((List.range 256).filter (fun n => (decodeTableWord 8 n).isNone)).length = 249 := by
  have hassigned : (List.range 256).countP (fun n => (decodeTableWord 8 n).isSome) = 7 :=
    List.countP_eq_length_filter.trans assignedWords_perm_codes.length_eq
  have hall := List.length_eq_countP_add_countP (fun n => (decodeTableWord 8 n).isSome) (l := List.range 256)
  rw [List.length_range, hassigned] at hall
  simp only [decide_not, Bool.decide_eq_true, Option.not_isSome] at hall
  rw [← List.countP_eq_length_filter]
  omega

/-- Settles O3: a code in the ranges is no command's, and the codes that are not are counted. -/
theorem reservedCodesAreRejected : Obligations.ReservedCodesAreRejected := by
  refine ⟨fun s code hcode => ?_, length_reservedWords⟩
  have hnone : ∀ i, encode i ≠ code := by
    rintro i rfl
    exact encode_not_in_reserved_ranges i hcode
  exact runCode_of_reserved (decode_of_reserved hnone) s

/-! A command in its clock. -/

theorem andThen_assoc (o : Result) (k k' : State → Result) :
    andThen (andThen o k) k' = andThen o (fun t => andThen (k t) k') := by
  cases o <;> rfl

/-- A clock with a code on the port and no reset: the code runs, the host moves on, the controller takes
its turn (R57, R190). -/
theorem step_of_code {s : State} {code : Byte} (hrst : s.nextClock.rst = false)
    (hport : portCommand s.nextClock s = some code) :
    step s = andThen (runCode code (beginClock s.nextClock (takeClock s)))
      (fun t => controllerTurn s.nextClock (hostMovesOn s.nextClock t)) := by
  have hhost : hostStep s.nextClock (beginClock s.nextClock (takeClock s)) =
      andThen (runCode code (beginClock s.nextClock (takeClock s)))
        (fun t => .next (hostMovesOn s.nextClock t)) := by
    simp [hostStep, hport]
  rw [step_of_no_reset hrst, hhost, andThen_assoc]
  rfl

/-- Settles O6: the code is a command's, or it is reserved. -/
theorem stepRunsTheDecodedCommand : Obligations.StepRunsTheDecodedCommand := by
  rintro s s0 c code rfl rfl hrst hport
  have hstep := step_of_code hrst (by simpa using hport)
  refine ⟨fun i hdec => ?_, fun hdec => ?_⟩
  · rw [hstep, runCode_of_decode hdec]
  · rw [hstep, runCode_of_reserved hdec]
    rfl

end Sys2Proof.Machine
end

section
/-! PROOF. The Reading registers change only on a successful read (R56, R199). -/

namespace Sys2Proof.Machine

open Sys2Proof

/-- The controller's step leaves the Reading registers alone, or is the commit of a frame in `CHK`. -/
theorem controllerStep_reading {c : Clock} {s t : State} (h : controllerStep c s = .next t) :
    (t.hum = s.hum ∧ t.tempc = s.tempc ∧ t.tempf = s.tempf ∧ t.tempk = s.tempk) ∨
    (s.phase = .chk ∧ t = acceptFrame s) := by
  rcases controllerStep_cases h with ⟨-, rfl⟩ | ⟨-, rfl⟩ | ⟨-, rfl⟩ | ⟨m, -, hstep⟩ | ⟨hp, rfl⟩
  · exact .inl ⟨rfl, rfl, rfl, rfl⟩
  · exact .inl ⟨rfl, rfl, rfl, rfl⟩
  · rcases reqWaitStep_cases c s with ⟨-, e⟩ | ⟨-, e⟩ <;> rw [e] <;> exact .inl ⟨rfl, rfl, rfl, rfl⟩
  · obtain ⟨-, -, -, -, -, -, hhum, htempc, htempf, htempk, -⟩ := measureStep_frame hstep
    exact .inl ⟨hhum, htempc, htempf, htempk⟩
  · rcases chkStep_cases s with ⟨-, e⟩ | ⟨-, e⟩ <;> rw [e]
    · exact .inr ⟨hp, rfl⟩
    · exact .inl ⟨rfl, rfl, rfl, rfl⟩

/-- `CHK` after a host step was there before it, with the same frame: an accepted `READ` leads to `REQ`. -/
theorem hostStep_chk {c : Clock} {s t : State} (h : hostStep c s = .next t) (hchk : t.phase = .chk) :
    s.phase = .chk ∧ t.frame = s.frame := by
  rcases hostStep_eq_next h with ⟨-, rfl⟩ | ⟨e, d, sc, rfl, -⟩ | ⟨-, -, sc, rfl⟩
  · exact ⟨hchk, rfl⟩
  · exact ⟨hchk, rfl⟩
  · simp at hchk

/-- Settles O50: the host's step writes no Reading register, and the controller's only in `CHK`, from the
frame and the parameters the clock began with. -/
theorem readingChangesOnlyOnSuccess : Obligations.ReadingChangesOnlyOnSuccess := by
  intro s t h hrst
  rcases step_eq_next h with ⟨hreset, -⟩ | ⟨-, u, hhost, hturn⟩
  · simp [hrst] at hreset
  obtain ⟨hcfg, -, -, -, hhum, htempc, htempf, htempk, -⟩ := hostStep_frame hhost
  simp only [beginClock_cfg, takeClock_cfg, beginClock_hum, takeClock_hum, beginClock_tempc,
    takeClock_tempc, beginClock_tempf, takeClock_tempf, beginClock_tempk, takeClock_tempk]
    at hcfg hhum htempc htempf htempk
  rcases controllerTurn_eq_next hturn with ⟨-, rfl⟩ | ⟨-, -, hstep⟩
  · exact .inl ⟨hhum, htempc, htempf, htempk⟩
  rcases controllerStep_reading hstep with ⟨hhum', htempc', htempf', htempk'⟩ | ⟨hchk, rfl⟩
  · exact .inl ⟨hhum'.trans hhum, htempc'.trans htempc, htempf'.trans htempf, htempk'.trans htempk⟩
  · obtain ⟨hphase, hframe⟩ := hostStep_chk hhost hchk
    simp only [beginClock_phase, takeClock_phase, beginClock_frame, takeClock_frame] at hphase hframe
    have hreading := acceptFrame_reading u
    rw [hcfg, hframe] at hreading
    exact .inr ⟨hphase, rfl, rfl, rfl, hreading⟩

end Sys2Proof.Machine
end

section
/-! PROOF. The host cannot disturb a read in flight (R60, R198): the controller's turn commutes with a
change of the host's side of the state, which is all that a host step leaves while a read is in flight. -/

namespace Sys2Proof.Machine

open Sys2Proof

/-- The state with the host's side of it, the response and the script, as given. -/
def State.withHostSide (s : State) (rsp : Option Response) (script : List ScriptLine) : State :=
  { s with rsp := rsp, script := script }

/-- The same change on an outcome; a stop stays a stop. -/
def setHostSide (rsp : Option Response) (script : List ScriptLine) (o : Result) : Result :=
  andThen o (fun t => .next (t.withHostSide rsp script))

@[simp] theorem setHostSide_next (rsp : Option Response) (script : List ScriptLine) (s : State) :
    setHostSide rsp script (.next s) = .next (s.withHostSide rsp script) := rfl

@[simp] theorem setHostSide_fault (rsp : Option Response) (script : List ScriptLine) (f : Fault) :
    setHostSide rsp script (.fault f) = .fault f := rfl

@[simp] theorem setHostSide_refused (rsp : Option Response) (script : List ScriptLine) (r : Refusal) :
    setHostSide rsp script (.refused r) = .refused r := rfl

/-! The controller does not see the host's side. -/

section
variable (rsp : Option Response) (script : List ScriptLine)

@[simp] theorem withHostSide_cfg (s : State) : (s.withHostSide rsp script).cfg = s.cfg := rfl
@[simp] theorem withHostSide_phase (s : State) : (s.withHostSide rsp script).phase = s.phase := rfl
@[simp] theorem withHostSide_ptRun (s : State) : (s.withHostSide rsp script).ptRun = s.ptRun := rfl
@[simp] theorem withHostSide_ptT0 (s : State) : (s.withHostSide rsp script).ptT0 = s.ptT0 := rfl
@[simp] theorem withHostSide_frame (s : State) : (s.withHostSide rsp script).frame = s.frame := rfl

theorem assembleBit_withHostSide (bit : Bool) (s : State) :
    assembleBit bit (s.withHostSide rsp script) = setHostSide rsp script (assembleBit bit s) := by
  rcases Nat.lt_or_ge s.bitIdx.toNat 40 with hlt | hge
  · rw [assembleBit_of_lt hlt, assembleBit_of_lt (s := s.withHostSide rsp script) hlt]
    rfl
  · rw [assembleBit_of_ge hge, assembleBit_of_ge (s := s.withHostSide rsp script) hge]
    rfl

theorem continueHandshake_withHostSide (next : Meas) (r : Nat) (s : State) :
    continueHandshake next r (s.withHostSide rsp script) =
      (continueHandshake next r s).withHostSide rsp script := by
  unfold continueHandshake
  split <;> rfl

theorem continueMeas_withHostSide (m : Meas) (r : Nat) (s : State) :
    continueMeas m r (s.withHostSide rsp script) = setHostSide rsp script (continueMeas m r s) := by
  cases m with
  | hs1 => exact congrArg _ (continueHandshake_withHostSide rsp script .hs2 r s)
  | hs2 => exact congrArg _ (continueHandshake_withHostSide rsp script .hs3 r s)
  | hs3 => exact congrArg _ (continueHandshake_withHostSide rsp script .blo r s)
  | blo => rfl
  | bhi =>
    by_cases hr : r = 0
    · subst hr; rfl
    · rw [continueMeas_bhi_of_ne_zero hr, continueMeas_bhi_of_ne_zero hr]
      exact assembleBit_withHostSide rsp script _ s

theorem ptStep_withHostSide (m : Meas) (c : Clock) (s : State) :
    ptStep m c (s.withHostSide rsp script) =
      ((ptStep m c s).1.withHostSide rsp script, (ptStep m c s).2) := by
  have htime : sampleTime (s.withHostSide rsp script) = sampleTime s := rfl
  unfold ptStep ptPoll ptStart
  simp only [withHostSide_ptRun, withHostSide_cfg, withHostSide_ptT0, htime]
  split
  · split <;> rfl
  · split <;> rfl

theorem measureStep_withHostSide (m : Meas) (c : Clock) (s : State) :
    measureStep m c (s.withHostSide rsp script) = setHostSide rsp script (measureStep m c s) := by
  unfold measureStep
  rw [ptStep_withHostSide]
  rcases ptStep m c s with ⟨t, _ | r⟩
  · rfl
  · exact continueMeas_withHostSide rsp script m r t

theorem reqWaitStep_withHostSide (c : Clock) (s : State) :
    reqWaitStep c (s.withHostSide rsp script) = (reqWaitStep c s).withHostSide rsp script := by
  unfold reqWaitStep
  split <;> rfl

theorem chkStep_withHostSide (s : State) :
    chkStep (s.withHostSide rsp script) = (chkStep s).withHostSide rsp script := by
  unfold chkStep
  rw [withHostSide_frame]
  split <;> rfl

theorem controllerStep_withHostSide (c : Clock) (s : State) :
    controllerStep c (s.withHostSide rsp script) = setHostSide rsp script (controllerStep c s) := by
  unfold controllerStep
  rw [withHostSide_phase]
  cases s.phase with
  | idle => rfl
  | req => rfl
  | reqWait => exact congrArg _ (reqWaitStep_withHostSide rsp script c s)
  | measure m => exact measureStep_withHostSide rsp script m c s
  | chk => exact congrArg _ (chkStep_withHostSide rsp script s)

theorem controllerTurn_withHostSide (c : Clock) (s : State) :
    controllerTurn c (s.withHostSide rsp script) = setHostSide rsp script (controllerTurn c s) := by
  unfold controllerTurn
  rw [withHostSide_phase]
  split
  · exact controllerStep_withHostSide rsp script c s
  · rfl

end

/-! A clock with a read in flight. -/

/-- With a read in flight a clock is the controller's turn, but for the host's side (R198). -/
theorem step_of_busy {s : State} {c : Clock} {cs : List Clock} (hcs : s.clocks = c :: cs)
    (hrst : c.rst = false) (hbusy : s.status.busy = true) :
    ∃ rsp script, step s =
      setHostSide rsp script (controllerTurn c (beginClock c { s with clocks := cs })) := by
  obtain rfl : s.nextClock = c := nextClock_of_cons hcs
  obtain ⟨u, hu⟩ := hostStep_answers s.nextClock (beginClock s.nextClock (takeClock s))
  obtain ⟨rsp, script, rfl⟩ := hostStep_busy hu (by simpa using hbusy)
  refine ⟨rsp, script, ?_⟩
  rw [step_of_no_reset hrst, hu, andThen_next, takeClock_of_cons hcs]
  exact controllerTurn_withHostSide rsp script _ _

/-- Of a clock's record the controller reads its own inputs, not what the host does. -/
theorem controllerTurn_host (c : Clock) (h : HostTurn) (s : State) :
    controllerTurn { c with host := h } s = controllerTurn c s := rfl

/-- Settles O56: both clocks are the one controller's turn, each with its host's side. -/
theorem hostCannotDisturbAReadInFlight : Obligations.HostCannotDisturbAReadInFlight := by
  intro s c cs h hbusy hrst
  obtain ⟨rsp, script, hstep⟩ := step_of_busy (s := { s with clocks := c :: cs }) rfl hrst hbusy
  obtain ⟨rsp', script', hstep'⟩ :=
    step_of_busy (s := { s with clocks := { c with host := h } :: cs }) rfl hrst hbusy
  have hsame : step { s with clocks := { c with host := h } :: cs } =
      setHostSide rsp' script' (controllerTurn c (beginClock c { s with clocks := cs })) := hstep'
  rw [hstep, hsame]
  cases controllerTurn c (beginClock c { s with clocks := cs }) with
  | next v =>
    refine ⟨fun t ht => ⟨v.withHostSide rsp' script', rfl, ?_⟩, by simp⟩
    cases ht
    rfl
  | fault e => simp
  | refused r => simp

end Sys2Proof.Machine
end

section
/-! PROOF. Failure entry (R224), the true count (R236), and runs that go on (R239, R240, R253). -/

namespace Sys2Proof.Machine

open Sys2Proof

/-- Settles O38: failure entry is these writes, one operation after the other. -/
theorem failureEntry : Obligations.FailureEntry := fun _ _ => rfl

/-- Whatever else a clock holds, the true count moves on by what its record says (R236). -/
theorem usCount_of_step {s t : State} (h : step s = .next t) :
    t.usCount = s.usCount + s.nextClock.elapsed := by
  rcases step_eq_next h with ⟨-, rfl⟩ | ⟨-, u, hhost, hturn⟩
  · simp
  · obtain ⟨-, hhostTime, -⟩ := hostStep_frame hhost
    obtain ⟨-, hturnTime, -⟩ := controllerTurn_frame hturn
    simpa using hturnTime.trans hhostTime

/-- Settles O54. -/
theorem trueTimeOnlyMovesForward : Obligations.TrueTimeOnlyMovesForward := fun _ _ h =>
  ⟨usCount_of_step h, usCount_of_step h ▸ Nat.le_add_right _ _⟩

/-- Settles O47: a step stops only with 40 bits or more in `BHI`, where the invariant has fewer. -/
theorem noStepStopsUnderTheInvariant : Obligations.NoStepStopsUnderTheInvariant :=
  fun _ hi => hi.step_goesOn

/-- From a state that meets the invariant every run goes on, and ends in one that meets it. -/
theorem State.Inv.run_goesOn {s : State} (hi : s.Inv) (k : Nat) :
    ∃ t, runSteps k s = .next t ∧ t.Inv := by
  induction k generalizing s with
  | zero => exact ⟨s, rfl, hi⟩
  | succ k ih =>
    obtain ⟨u, hu⟩ := hi.step_goesOn
    rw [runSteps_of_step hu]
    exact ih (step_keeps_inv hi hu)

/-- Settles O48: the script and the inputs are no part of the invariant that holds after reset. -/
theorem everyRunFromResetGoesOn : Obligations.EveryRunFromResetGoesOn :=
  fun c script clocks k => ((resetWith_inv c).with_outside script clocks 0 0).run_goesOn k

end Sys2Proof.Machine
end

section
/-! PROOF. The completion event marks the end of a read (R227): every part of the controller's step either
leaves the event and the status alone, or ends the read and records its status with the event. -/

namespace Sys2Proof.Machine

open Sys2Proof

/-- From `s` to `t` no read ends: the completion event and the status are kept. -/
def keepsCompletion (s t : State) : Prop :=
  t.doneStb = s.doneStb ∧ t.doneCode = s.doneCode ∧ t.status = s.status

/-- In `t` a read has just ended: the event is given, and the status recorded with the event's code. -/
def readEnds (t : State) : Prop := t.doneStb = true ∧ t.status = ⟨t.doneCode, false, true⟩

theorem readEnds_raiseFail (code : StatusCode) (s : State) : readEnds (raiseFail code s) := ⟨rfl, rfl⟩

theorem readEnds_chkStep (s : State) : readEnds (chkStep s) := by
  rcases chkStep_cases s with ⟨-, e⟩ | ⟨-, e⟩ <;> rw [e] <;> exact ⟨rfl, rfl⟩

theorem keepsCompletion_reqWaitStep (c : Clock) (s : State) : keepsCompletion s (reqWaitStep c s) := by
  rcases reqWaitStep_cases c s with ⟨-, e⟩ | ⟨-, e⟩ <;> rw [e] <;> exact ⟨rfl, rfl, rfl⟩

theorem continueMeas_completion {m : Meas} {r : Nat} {s t : State}
    (h : continueMeas m r s = .next t) : keepsCompletion s t ∨ readEnds t := by
  rcases continueMeas_eq_next h with ⟨-, -, rfl⟩ | ⟨-, -, rfl⟩ | ⟨-, -, rfl⟩ | ⟨-, -, rfl⟩ |
    ⟨-, rfl⟩ | ⟨-, -, rfl⟩ | ⟨-, -, -, rfl⟩
  · exact .inr (readEnds_raiseFail _ s)
  · exact .inl ⟨rfl, rfl, rfl⟩
  · exact .inl ⟨rfl, rfl, rfl⟩
  · exact .inl ⟨rfl, rfl, rfl⟩
  · exact .inl ⟨rfl, rfl, rfl⟩
  · exact .inr (readEnds_raiseFail _ s)
  · exact .inl ⟨rfl, rfl, rfl⟩

theorem measureStep_completion {m : Meas} {c : Clock} {s t : State}
    (h : measureStep m c s = .next t) : keepsCompletion s t ∨ readEnds t := by
  rcases measureStep_cases m c s with ⟨-, -, e⟩ | ⟨-, -, e⟩ | ⟨-, -, -, e⟩ | ⟨-, -, -, e⟩ |
    ⟨-, -, e⟩ <;> rw [e] at h
  · cases h; exact .inl ⟨rfl, rfl, rfl⟩
  · exact continueMeas_completion h
  · cases h; exact .inl ⟨rfl, rfl, rfl⟩
  · exact continueMeas_completion (s := stopTimer s) h
  · exact continueMeas_completion (s := stopTimer s) h

/-- The controller's turn ends no read, or ends one that was in flight, and not in its `REQ` step. -/
theorem controllerTurn_completion {c : Clock} {s t : State} (h : controllerTurn c s = .next t) :
    keepsCompletion s t ∨ (s.phase ≠ .idle ∧ s.phase ≠ .req ∧ readEnds t) := by
  rcases controllerTurn_eq_next h with ⟨-, rfl⟩ | ⟨-, hflight, hstep⟩
  · exact .inl ⟨rfl, rfl, rfl⟩
  rcases controllerStep_cases hstep with ⟨-, rfl⟩ | ⟨-, rfl⟩ | ⟨-, rfl⟩ | ⟨m, hm, hmeas⟩ | ⟨hchk, rfl⟩
  · exact .inl ⟨rfl, rfl, rfl⟩
  · exact .inl ⟨rfl, rfl, rfl⟩
  · exact .inl (keepsCompletion_reqWaitStep c s)
  · exact (measureStep_completion hmeas).imp_right fun hend => ⟨hflight, by simp [hm], hend⟩
  · exact .inr ⟨hflight, by simp [hchk], readEnds_chkStep s⟩

/-- Settles O51: the clock begins without the event, the host's step ends no read, and a read that the
controller's turn ends was in flight when the clock began. -/
theorem completionEventMarksTheEndOfARead : Obligations.CompletionEventMarksTheEndOfARead := by
  intro s t hi h hrst
  rcases step_eq_next h with ⟨hreset, -⟩ | ⟨-, u, hhost, hturn⟩
  · simp [hrst] at hreset
  obtain ⟨-, -, -, -, -, -, -, -, -, -, -, -, hstb, hdoneCode, -, hcode, -⟩ := hostStep_frame hhost
  simp only [beginClock_doneStb, beginClock_doneCode, takeClock_doneCode, beginClock_status,
    takeClock_status] at hstb hdoneCode hcode
  rcases controllerTurn_completion hturn with ⟨hkeepStb, hkeepCode, hkeepStatus⟩ |
    ⟨hflight, hnotReq, hendStb, hendStatus⟩
  · have hnone : t.doneStb = false := hkeepStb.trans hstb
    have hstays (hbusy : s.status.busy = true) : t.status.busy = true := by
      obtain ⟨rsp, script, rfl⟩ := hostStep_busy hhost (by simpa using hbusy)
      simpa [hkeepStatus] using hbusy
    refine ⟨by simpa [hnone] using hstays, by simp [hnone], fun _ => ⟨hkeepCode.trans hdoneCode, ?_⟩⟩
    rw [hkeepStatus, hcode]
  · have hphase : u.phase = s.phase := by
      rcases hostStep_phase hhost with hsame | ⟨-, -, hreq⟩
      · simpa using hsame
      · exact absurd hreq hnotReq
    have hbusy : s.status.busy = true := hi.busy.2 (hphase ▸ hflight)
    simp [hendStb, hendStatus, hbusy]

end Sys2Proof.Machine
end

section
/-! PROOF. Stuck lines (R257): a step that finds the pin at its phase's target level starts the timer, waits,
or gives the phase's continuation a zero result. -/

namespace Sys2Proof.Machine

open Sys2Proof

/-- A measuring phase whose target level is on the pin. -/
theorem controllerStep_of_target {s t : State} {m : Meas} {c : Clock} (hm : s.phase = .measure m)
    (hpin : c.pinIn = targetLevel m) (h : controllerStep c s = .next t) :
    (s.ptRun = false ∧ t = startTimer (sampleTime s) s) ∨
    (s.ptRun = true ∧ (t = s ∨ continueMeas m 0 (stopTimer s) = .next t)) := by
  rw [controllerStep_of_measure hm] at h
  rcases measureStep_cases m c s with ⟨hrun, -, e⟩ | ⟨-, hoff, -⟩ | ⟨hrun, -, -, e⟩ | ⟨hrun, -, -, e⟩ |
    ⟨-, hoff, -⟩
  · cases e.symm.trans h; exact .inl ⟨hrun, rfl⟩
  · exact absurd hpin hoff
  · cases e.symm.trans h; exact .inr ⟨hrun, .inl rfl⟩
  · exact .inr ⟨hrun, .inr (e.symm.trans h)⟩
  · exact absurd hpin hoff

/-- A line stuck low in `BLO` receives no bit, and leaves the marker with the timer stopped. -/
theorem blo_stuckLow {s t : State} {c : Clock} (hm : s.phase = .measure .blo) (hpin : c.pinIn = .low)
    (h : controllerStep c s = .next t) :
    t.bitIdx = s.bitIdx ∧ t.frame = s.frame ∧
    (t.phase = .measure .blo ∨ (t.phase = .measure .bhi ∧ t.ptRun = false)) := by
  rcases controllerStep_of_target hm hpin h with ⟨-, rfl⟩ | ⟨-, rfl | hends⟩
  · exact ⟨rfl, rfl, .inl hm⟩
  · exact ⟨rfl, rfl, .inl hm⟩
  · rw [markerResultIsDiscarded] at hends
    cases hends
    exact ⟨rfl, rfl, .inr ⟨rfl, rfl⟩⟩

/-- The two phases a line stuck high stalls in, each with the failure of a zero result (R135, R137). -/
theorem continueMeas_zero_of_stuckHigh {m : Meas} {k : StatusCode}
    (h : (m, k) ∈ [(Meas.hs3, StatusCode.noReply), (Meas.bhi, .timeout)]) (s : State) :
    targetLevel m = .high ∧ continueMeas m 0 s = .next (raiseFail k s) := by
  simp only [List.mem_cons, Prod.mk.injEq, List.not_mem_nil, or_false] at h
  rcases h with ⟨rfl, rfl⟩ | ⟨rfl, rfl⟩ <;> exact ⟨rfl, rfl⟩

/-- Settles O44: a low line gives `BLO` no bit and is off level at the start of `BHI`; a high line
is polled at its level until the timeout. -/
theorem stuckLinesCannotCompleteOk : Obligations.StuckLinesCannotCompleteOk := by
  refine ⟨fun _ _ _ => blo_stuckLow, fun s c hm hrun hpin => ?_,
    fun m k hmk s t c hm hrun hpin h => ?_⟩
  · rw [measurementStart s c .bhi hm hrun, if_neg (by simp [hpin, targetLevel])]
    rfl
  · obtain ⟨htarget, hzero⟩ := continueMeas_zero_of_stuckHigh hmk (stopTimer s)
    rcases controllerStep_of_target hm (hpin.trans htarget.symm) h with ⟨hstopped, -⟩ | ⟨-, rfl | hends⟩
    · simp [hrun] at hstopped
    · exact .inl rfl
    · cases hzero.symm.trans hends
      exact .inr rfl

end Sys2Proof.Machine
end

section
/-! PROOF. The reset step and the machine after reset (R250 to R252). -/

namespace Sys2Proof.Machine

open Sys2Proof

/-- Settles O10: a clock with `rst` is the reset step, after the time has counted on and the record is used up. -/
theorem resetStepSetsEveryRegister : Obligations.ResetStepSetsEveryRegister := by
  intro s c cs hcs hrst
  have hclock : s.nextClock = c := nextClock_of_cons hcs
  rw [step_of_reset (hclock ▸ hrst), hclock, takeClock_of_cons hcs]
  rfl

/-- The status word after reset is `{DONE, BUSY, CODE} = {0, 0, NoReply}` (R76). -/
theorem statusWord_reset : statusWord ⟨.noReply, false, false⟩ = 0x00000003#32 := by decide

/-- Settles O11: the responses of `GET_STATUS` and of the four accessors to the reset values. -/
theorem afterResetSwpcIsIdleAndReleased : Obligations.AfterResetSwpcIsIdleAndReleased := by
  intro c
  refine ⟨rfl, rfl, ⟨_, rfl, congrArg (some <| Response.mk false ·) statusWord_reset⟩, fun i hi => ?_⟩
  simp only [List.mem_cons, List.not_mem_nil, or_false] at hi
  rcases hi with rfl | rfl | rfl | rfl
  · exact ⟨_, getHumReturnsHumidity _, rfl⟩
  · exact ⟨_, getTempcReturnsCelsius _, rfl⟩
  · exact ⟨_, getTempfReturnsFahrenheit _, rfl⟩
  · exact ⟨_, getTempkReturnsKelvin _, rfl⟩

end Sys2Proof.Machine
end
